-- ==== Sys2Proof/Word.lean ====
section
/-! DEFINITION. The plain types every other file uses: a byte of a port or of the line, a running timer. -/

namespace Sys2Proof

/-- A byte as the ports carry it (R194) or a line character (R30, R42). -/
abbrev Byte := BitVec 8

/-- A timer: stopped (`none`), or running with the microseconds left to its expiry.
The expiry itself is a command of its own in spec/opcode_table.json; see assumption 2. -/
abbrev Timer := Option Nat

/-- One of the 24 slots of the store, 0 to 23 (R1). -/
abbrev SlotId := Fin 24

/-- A position of the key matrix: 10 × drive line + sense line, 0 to 79 (R110). -/
abbrev KeyPos := Fin 80

/-- A set of printhead dots, bit d for dot d, 0 to 639 (R149, R151). -/
abbrev Dots := BitVec 640

end Sys2Proof
end

