-- ==== Sys2Proof/Config.lean ====
section
/-! DEFINITION. What the part fixes and the manual does not print. -/

namespace Sys2Proof

/-- FREE VALUE (assumption 3). The dots of row `row` (0 to 11, from the top) of the glyph of code `code`:
bit x is dot x from the left. R151 says that the shapes of the printable glyphs are fixed in the part and
prints none of them, so the model leaves them open. The space and the flaw glyph, whose dots R151 does give,
never reach this constant. -/
opaque Config.font (code : Byte) (row : Nat) : BitVec 8

/-- FREE VALUE (assumption 24). The level of BEEP at the start of a burst, true for high: R172 gives the frequency of
the square wave and not the level it begins at. -/
opaque Config.beepStart : Bool

/-- FREE VALUE (assumption 39). The sign, true for positive, that the demodulator sees in LOOP at a modulator sample
whose sine is exactly 0: R46 feeds it the sign of the sample and does not say which sign 0 has. -/
opaque Config.zeroSampleSign : Bool

/-- FREE VALUE (assumption 40). Whether, at the end of the 2 ms after a release of RESETN (the `n`-th of the run, from
0), a port A select that began in them is under way without having brought its command byte: CSN is an input, and no
row of the command table reports its fall. -/
opaque Config.selectAtStartup (n : Nat) : Bool

end Sys2Proof
end

