-- ==== Sys2Proof/Syntax.lean ====
section
/-! DEFINITION. The commands: one constructor of `Instr` per row of spec/opcode_table.json, and the port commands
of section 11.5 as the two ports carry them. -/

namespace Sys2Proof

/-- The two ports, of the console processor (A) and of the application module (B). -/
inductive Port where
  | a
  | b
  deriving DecidableEq, Repr

/-- The two live sources of the print arbiter (R131). -/
inductive LiveSource where
  /-- The receive direct FIFO while open_text_sink is PRINT. -/
  | lds
  /-- The local copy buffer. -/
  | lcs
  deriving DecidableEq, Repr

/-- A command of the command table of section 11.5 (R190) with its argument bytes, as a port receives it.
PORT_B_WRITE_END carries one of these as a string of bytes. -/
inductive PortCommand where
  | claim (kind : Byte)
  | release (slot : Byte)
  | setAttributes (slot priority successor framing route cls flags : Byte)
  | writeText (slot offset count endFlag : Byte) (bytes : List Byte)
  | readText (slot offset count : Byte)
  | readFlaws (slot : Byte)
  | readSlotInfo (slot : Byte)
  | hold (slot : Byte)
  | unhold (slot : Byte)
  | post (slot : Byte)
  | repost (slot : Byte)
  | edit (slot : Byte)
  | withdraw (slot : Byte)
  | arm (slot : Byte)
  | connect (mode : Byte)
  | hangUp (manner : Byte)
  | lineReset
  | sendBreak
  | readLineStatus
  | clearCounters
  | readOpenText (count : Byte)
  | takeFocus
  | giveFocus
  | readKeys (count : Byte)
  | feed (count : Byte)
  | readPrintStatus
  | drainMark (path : Byte)
  | readDrain
  | readEvent
  | ackEvent (source : Byte)
  | setEventMask (masks : Byte)
  | setAlertEnables (enables : Byte)
  | readAlerts
  | configure (setting : Byte) (value : BitVec 16)
  | readSetting (setting : Byte)
  | readStatus
  | controllerReset
  deriving DecidableEq, Repr

/-- A write on port B's bus (R185): the address it begins with, and its data bytes. -/
structure BusWrite where
  address : BitVec 7
  bytes : List Byte
  deriving DecidableEq, Repr

/-- The commands of the block: one constructor per row of spec/opcode_table.json. The operand `port` is the port on
which a command arrived; the other operands are its argument bytes (section 11.5), or what the pins showed at the
event the row describes. -/
inductive Instr where
  /-- CLAIM (R6, R7). -/
  | claim (port : Port) (kind : Byte)
  /-- RELEASE (R8 to R10). -/
  | release (port : Port) (slot : Byte)
  /-- SET ATTRIBUTES (R11). -/
  | setAttributes (port : Port) (slot priority successor framing route cls flags : Byte)
  /-- WRITE TEXT (R12); `bytes` are the count bytes of text, none when the count is not 1 to 32 (R183). -/
  | writeText (port : Port) (slot offset count endFlag : Byte) (bytes : List Byte)
  /-- READ TEXT (R13). -/
  | readText (port : Port) (slot offset count : Byte)
  /-- READ FLAWS (R14). -/
  | readFlaws (port : Port) (slot : Byte)
  /-- READ SLOT INFO (R15). -/
  | readSlotInfo (port : Port) (slot : Byte)
  /-- HOLD (R20). -/
  | hold (port : Port) (slot : Byte)
  /-- UNHOLD (R21). -/
  | unhold (port : Port) (slot : Byte)
  /-- POST (R16). -/
  | post (port : Port) (slot : Byte)
  /-- REPOST (R18). -/
  | repost (port : Port) (slot : Byte)
  /-- EDIT (R19). -/
  | edit (port : Port) (slot : Byte)
  /-- WITHDRAW (R100, R101, R138, R139). -/
  | withdraw (port : Port) (slot : Byte)
  /-- ARM (R22). -/
  | arm (port : Port) (slot : Byte)
  /-- CONNECT (R49). -/
  | connect (port : Port) (mode : Byte)
  /-- HANG UP (R54, R58). -/
  | hangUp (port : Port) (manner : Byte)
  /-- LINE RESET (R59). -/
  | lineReset (port : Port)
  /-- BREAK (R104). -/
  | sendBreak (port : Port)
  /-- READ LINE STATUS (R62, R83). -/
  | readLineStatus (port : Port)
  /-- CLEAR COUNTERS (R83). -/
  | clearCounters (port : Port)
  /-- READ OPEN TEXT (R80). -/
  | readOpenText (port : Port) (count : Byte)
  /-- TAKE FOCUS (R124). -/
  | takeFocus (port : Port)
  /-- GIVE FOCUS (R125). -/
  | giveFocus (port : Port)
  /-- READ KEYS (R122). -/
  | readKeys (port : Port) (count : Byte)
  /-- FEED (R144). -/
  | feed (port : Port) (count : Byte)
  /-- READ PRINT STATUS (R147, R165). -/
  | readPrintStatus (port : Port)
  /-- DRAIN MARK (R107, R145). -/
  | drainMark (port : Port) (path : Byte)
  /-- READ DRAIN (R109). -/
  | readDrain (port : Port)
  /-- READ EVENT (R178). -/
  | readEvent (port : Port)
  /-- ACK EVENT (R179). -/
  | ackEvent (port : Port) (source : Byte)
  /-- SET EVENT MASK (R177). -/
  | setEventMask (port : Port) (masks : Byte)
  /-- SET ALERT ENABLES (R181). -/
  | setAlertEnables (port : Port) (enables : Byte)
  /-- READ ALERTS (R182). -/
  | readAlerts (port : Port)
  /-- CONFIGURE (R191). -/
  | configure (port : Port) (setting : Byte) (value : BitVec 16)
  /-- READ SETTING (R192). -/
  | readSetting (port : Port) (setting : Byte)
  /-- READ STATUS (R193). -/
  | readStatus (port : Port)
  /-- CONTROLLER RESET (R189). -/
  | controllerReset (port : Port)
  /-- A port A select that ends before its last argument byte (R183); `cmd` is the command byte, absent when the
  select ended with fewer than eight clocks of it. -/
  | portASelectShort (cmd : Option Byte)
  /-- A command byte on port A that is not in the command table (R184). -/
  | portAUnknownCommand (cmd : Byte)
  /-- A STOP or repeated START ends a two-wire write (R185). -/
  | portBWriteEnd (write : BusWrite)
  /-- A port B read (R186). -/
  | portBRead
  /-- A bus stall on port B (R187); `cmd` is the command code of a write that had received one. -/
  | portBTimeout (cmd : Option Byte)
  /-- RESETN falls, or power comes on (R188). -/
  | resetnAsserted
  /-- RESETN rises (R188). -/
  | resetnReleased
  /-- The 2 ms after the release of RESETN are over (R188). -/
  | startupIgnoreEnd
  /-- The modulator finishes a character frame (R30). -/
  | characterComplete
  /-- The modulator finishes 250 ms of space (R31). -/
  | breakComplete
  /-- A sign change of the microphone signal, `ticks` 1-µs ticks beyond those the crossing counter holds (R33,
  assumption 4); the sign changes of LOOP's own input come with the tick (assumption 25). -/
  | zeroCrossing (ticks : Nat)
  /-- The crossing counter reaches 4095 (R33). -/
  | crossingCounter4095
  /-- The qualify run timer expires (R36). -/
  | qualifyRunExpired
  /-- The 20 ms silence timer expires (R37). -/
  | silenceTimerExpired
  /-- The 20 ms requalify timer expires (R38). -/
  | requalifyTimerExpired
  /-- The fade timer expires (R38). -/
  | fadeTimerExpired
  /-- The bit sampler completes a character (R42): its byte, whether the parity bit disagreed, whether the stop bit
  was space. -/
  | characterReceived (byte : Byte) (parityFault stopSpace : Bool)
  /-- The space run reaches 2F (R43). -/
  | breakReceived
  /-- The first mark sample in BREAK (R43). -/
  | breakEnd
  /-- The connect timer expires (R52). -/
  | connectTimerExpired
  /-- The 120 s clearing timer expires (R57). -/
  | clearingTimerExpired
  /-- The reply timer expires (R98). -/
  | replyTimerExpired
  /-- The hold timer of a waited send chain expires (R93). -/
  | sendHoldTimerExpired
  /-- The hold timer of a waited answerback expires (R94). -/
  | answerbackHoldExpired
  /-- The send-path mask timer of a port expires (R93). -/
  | sendMaskTimerExpired (port : Port)
  /-- The flow-limit timer expires (R103). -/
  | flowLimitTimerExpired
  /-- The 5 ms keyboard scan (R110); bit p of `down` is set when position p is observed DOWN. -/
  | scan (down : BitVec 80)
  /-- The repeat timer expires (R117). -/
  | repeatTimerExpired
  /-- A live source's 3 s silence timer expires (R132). -/
  | liveSilenceExpired (source : LiveSource)
  /-- The hold timer of a waited print chain expires (R136). -/
  | printHoldTimerExpired
  /-- The print-path mask timer of a port expires (R136). -/
  | printMaskTimerExpired (port : Port)
  /-- A later firing group begins (R157). -/
  | groupBegin
  /-- A firing group reaches Ts (R158). -/
  | groupPhase2
  /-- A firing group reaches Td (R158); `vbat` is the battery voltage in mV then, converted only when a battery
  measurement is due (R167). -/
  | groupStrobeEnd (vbat : Nat)
  /-- A row period or a blank step ends (R159). -/
  | stepEnd
  /-- The 10 ms paper sample (R161): whether PSEN reads OUT. -/
  | paperSample (out : Bool)
  /-- The 1 s paper-present timer expires (R163). -/
  | paperPresentExpired
  /-- The 10 ms battery timer expires (R167); `vbat` is the battery voltage in mV, converted unless the measurement
  is deferred. -/
  | batteryTimerExpired (vbat : Nat)
  /-- The 100 ms head timer expires (R168); `thm` is the head temperature in thousandths of a °C. -/
  | headTimerExpired (thm : Int)
  /-- The blink clock changes (R171). -/
  | blinkClockToggle
  /-- The burst timer expires (R172). -/
  | burstTimerExpired
  /-- The bit sampler reads the decided level (R40, R41). -/
  | bitSamplerSample
  /-- CSN rises at or after the result, or ends an ignored select (R183, R188). -/
  | portASelectEnd
  deriving DecidableEq, Repr

end Sys2Proof
end

