-- ==== Sys2Proof/Machine/State.lean ====
section
/-! DEFINITION. The state of the part: one structure per block of the manual's block overview, every field plain data,
with the value it takes after the RESET pin or power-on. -/

namespace Sys2Proof.Machine

/-! ## Faults and refusals -/

/-- The ways a step can stop with a fault. There is none: the manual gives every command an effect or a result code
in every state, so this type has no constructor. Safe: no run ends here. -/
inductive Fault
  deriving DecidableEq, Repr

/-- The ways a step can be refused. -/
inductive Refusal where
  /-- Raised by `exec` alone, for a command whose meaning is not modelled yet; safe, since the step stops. No arm
  of `exec` raises it now. -/
  | notModelled (mnemonic : String)
  deriving DecidableEq, Repr

/-! ## Values shared by the blocks -/

/-- One value for each port. -/
structure PerPort (α : Type) where
  a : α
  b : α
  deriving DecidableEq, Repr

/-- A drain mark's path (R107). -/
inductive Path where
  | line
  | print
  deriving DecidableEq, Repr

/-- A flow state or flow control (R81, R102). -/
inductive Flow where
  | xon
  | xoff
  deriving DecidableEq, Repr

/-! ## Slot store (chapter 1) -/

/-- The kind of a claimed slot (R1). -/
inductive Kind where
  | send
  | print
  | receive
  | answerback
  deriving DecidableEq, Repr

/-- The states of R1's table, with FREE. -/
inductive SlotState where
  | free
  | held
  | queued
  | active
  | copying
  | done
  | aborted
  | failed
  | armed
  | pending
  | standing
  deriving DecidableEq, Repr

inductive Framing where
  | plain
  | record
  deriving DecidableEq, Repr

/-- The checking class of a record. -/
inductive RecordClass where
  | c
  | n
  deriving DecidableEq, Repr

/-- The outcomes of R1's table. -/
inductive EndOutcome where
  | sent
  | printed
  | copyCut
  | withdrawn
  | refused
  | noReply
  | lineLost
  | hungUp
  | lineReset
  | controllerReset
  deriving DecidableEq, Repr

/-- The auto-print job field of a RECEIVE slot (R1, R26). -/
inductive AutoJob where
  | absent
  | waiting
  | printing
  deriving DecidableEq, Repr

/-- The record info of a PENDING slot (R1, R26). -/
structure RecordInfo where
  route : Byte
  cls : RecordClass
  bad : Bool
  overwritten : Bool
  deriving DecidableEq, Repr

/-- A slot with its descriptor (R1). A field that the slot's kind does not hold stands at the value `Slot.unclaimed`
gives it. -/
structure Slot where
  kind : Option Kind
  owner : Option Port
  state : SlotState
  length : Nat
  text : Vector Byte 80
  priority : Nat
  successor : Option SlotId
  chainHead : Option SlotId
  framing : Framing
  /-- The route code, 0x2A for ANY (section 11.5). -/
  route : Byte
  cls : RecordClass
  copy : Bool
  protect : Bool
  autoprint : Bool
  hold : Bool
  attempts : Nat
  outcome : Option EndOutcome
  /-- Bit p set: position p arrived flawed. -/
  flaws : BitVec 80
  record : Option RecordInfo
  job : AutoJob
  deriving DecidableEq, Repr

/-- A FREE slot after the RESET pin (R3): length 0, no descriptor field, 80 spaces. -/
def Slot.unclaimed : Slot where
  kind := none
  owner := none
  state := .free
  length := 0
  text := Vector.replicate 80 0x20
  priority := 0
  successor := none
  chainHead := none
  framing := .plain
  route := 0
  cls := .n
  copy := false
  protect := false
  autoprint := false
  hold := false
  attempts := 0
  outcome := none
  flaws := 0
  record := none
  job := .absent

/-- Slot 0 after the RESET pin (R3). -/
def Slot.standing : Slot := { Slot.unclaimed with kind := some .answerback, state := .standing }

/-! ## Line modem (chapter 2) -/

/-- The connection mode (R27). -/
inductive Mode where
  | originate
  | answer
  | loop
  deriving DecidableEq, Repr

/-- A line level, and the tone that carries it. -/
inductive Level where
  | mark
  | space
  deriving DecidableEq, Repr

/-- The modulator's state (R29). -/
inductive Modulator where
  | off
  | markIdle
  /-- CHARACTER: the frame's line bits in order, and the 1-µs ticks it has lasted (R30). -/
  | character (frame : List Level) (elapsed : Nat)
  /-- BREAK: what is left, in quarters of a µs, of the 250 ms, which run from the first space sample; none until that
  sample (R31). -/
  | breaking (left : Option Nat)
  deriving DecidableEq, Repr

/-- The carrier status (R35). -/
inductive Carrier where
  | absent
  | qualifying
  | present
  | fading
  deriving DecidableEq, Repr

inductive SamplerState where
  | suspended
  | hunt
  | start
  | data
  | waitMark
  | breaking
  deriving DecidableEq, Repr

/-- The bit sampler (R40). -/
structure Sampler where
  state : SamplerState
  /-- The sample position within the current character; outside one 0 (DESIGN CHOICE, assumption 45). -/
  position : Nat
  /-- The bits taken so far, in order of arrival: data bits, then the parity bit. -/
  bits : List Bool
  spaceRun : Nat
  deriving DecidableEq, Repr

structure Modem where
  mode : Mode
  modulator : Modulator
  /-- A carrier-off request waits for the next modulator sample, at which the modulator enters OFF (R29, R32). -/
  offDue : Bool
  /-- The place between two modulator samples, in quarters of a µs: 0 to 124 (a sample every 31.25 µs, R28). -/
  sampleClock : Nat
  /-- The phase accumulator (R28). -/
  phase : BitVec 16
  /-- The crossing counter (R33). -/
  crossing : Nat
  /-- The last recorded half-period h_prev (R33). -/
  hPrev : Nat
  /-- The decided level (R34). -/
  level : Level
  carrier : Carrier
  qualifyTimer : Timer
  silenceTimer : Timer
  requalifyTimer : Timer
  fadeTimer : Timer
  sampler : Sampler
  deriving DecidableEq, Repr

/-- The bit sampler SUSPENDED (R40): the space run 0 and no bits. DESIGN CHOICE (assumption 45): the sample position, to
which R40 gives no value outside a character, is 0. -/
def Sampler.suspend : Sampler := ⟨.suspended, 0, [], 0⟩

/-- The line modem after the RESET pin, CONTROLLER RESET and LINE RESET (R27, R29, R33, R35, R40). -/
def Modem.reset : Modem where
  mode := .originate
  modulator := .off
  offDue := false
  sampleClock := 0
  phase := 0
  crossing := 0
  hPrev := 4095
  level := .mark
  carrier := .absent
  qualifyTimer := none
  silenceTimer := none
  requalifyTimer := none
  fadeTimer := none
  sampler := Sampler.suspend

/-! ## Connection supervisor (chapter 3) -/

inductive SupState where
  | idle
  | calling
  | answering
  | online
  | clearing
  deriving DecidableEq, Repr

/-- The LINE reasons (R47). -/
inductive LineReason where
  | none
  | calling
  | answering
  | online
  | noAnswer
  | clearing
  | cleared
  | clearTimeout
  | lost
  | hungUp
  | reset
  deriving DecidableEq, Repr

/-- The clearing set (R55): the heads of its chains, and the entry numbers of its characters. -/
structure ClearingSet where
  chains : List SlotId
  chars : List Nat
  deriving DecidableEq, Repr

structure Supervisor where
  state : SupState
  connectTimer : Timer
  clearingTimer : Timer
  clearing : Option ClearingSet
  reason : LineReason
  deriving DecidableEq, Repr

/-- The supervisor after the RESET pin and CONTROLLER RESET (R47); the mode is kept by the modem. -/
def Supervisor.reset : Supervisor := ⟨.idle, none, none, none, .none⟩

/-! ## Receive parser (chapter 4) -/

/-- A received byte with its flaw mark. -/
structure RxByte where
  byte : Byte
  flawed : Bool
  deriving DecidableEq, Repr

/-- The parser state with the record assembly buffer, which is in use in ROUTE, CLASS, BODY and CHECK alone (R63):
each state carries the fields filled by then. `check` is the running check. -/
inductive ParserState where
  | text
  | route
  | cls (route : Byte)
  | body (route : Byte) (cls : RecordClass) (text : List RxByte) (check : Byte)
  | check (route : Byte) (cls : RecordClass) (text : List RxByte) (check : Byte)
  | discard (checkDue : Bool)
  deriving DecidableEq, Repr

inductive Reply where
  | ack
  | nak
  deriving DecidableEq, Repr

/-- The nine line counters (R82). -/
structure Counters where
  received : Nat
  flawed : Nat
  filed : Nat
  discarded : Nat
  lost : Nat
  unrouted : Nat
  stray : Nat
  fifoDrops : Nat
  openDropped : Nat
  deriving DecidableEq, Repr

def Counters.zero : Counters := ⟨0, 0, 0, 0, 0, 0, 0, 0, 0⟩

/-- A live silence timer (R131): running or stopped, and whether it has expired since the latest entry. -/
structure Silence where
  timer : Timer
  expired : Bool
  deriving DecidableEq, Repr

structure Parser where
  state : ParserState
  /-- The reply queue, oldest first (R74). -/
  replies : List Reply
  /-- The receive direct FIFO, oldest first (R77). -/
  fifo : List RxByte
  /-- LDS's live silence timer, which runs from the FIFO's latest entry (R77, R131). -/
  silence : Silence
  localFlow : Flow
  pendingFlow : Option Flow
  counters : Counters
  deriving DecidableEq, Repr

/-- The parser after the RESET pin and CONTROLLER RESET (R63). -/
def Parser.reset : Parser := ⟨.text, [], [], ⟨none, false⟩, .xon, none, Counters.zero⟩

/-! ## Transmit scheduler (chapter 5) -/

/-- A send chain in the send queue (R85), named by its head, with its entry number (assumption 8). -/
structure QueuedChain where
  head : SlotId
  entry : Nat
  deriving DecidableEq, Repr

/-- A character of the key-to-line FIFO with its entry number (R105). -/
structure KeyChar where
  code : Byte
  entry : Nat
  deriving DecidableEq, Repr

/-- Where a chain turn stands (R95 to R97). -/
inductive ChainPhase where
  /-- PLAIN: how many of the chain's sent bytes have been handed. -/
  | plain (sent : Nat)
  /-- RECORD, at the point where the record of the current member is to begin; `first` for the chain's first
  record on its first attempt, at which no answerback may begin (R87). -/
  | between (first : Bool)
  /-- RECORD, a record in progress, `sent` of its characters handed (R86). -/
  | record (sent : Nat)
  /-- In a reply wait for the current member's record (R97). -/
  | reply
  deriving DecidableEq, Repr

structure ChainTurn where
  head : SlotId
  entry : Nat
  member : SlotId
  phase : ChainPhase
  deriving DecidableEq, Repr

/-- The current turn (R84). An answerback set between the records of a chain carries the suspended chain turn
(R87). -/
inductive Turn where
  | none
  | answerback (left : List Byte) (suspended : Option ChainTurn)
  | key (left : Nat)
  | chain (turn : ChainTurn)
  deriving DecidableEq, Repr

inductive HoldTarget where
  | chain (head : SlotId)
  | answerback
  deriving DecidableEq, Repr

/-- A hold wait with its hold timer (R92, R94). -/
structure LineHold where
  target : HoldTarget
  timer : Timer
  deriving DecidableEq, Repr

inductive BreakRequest where
  | none
  | requested
  | sending
  deriving DecidableEq, Repr

inductive TurnKind where
  | key
  | chain
  deriving DecidableEq, Repr

/-- A line drain mark (R107), with its mark number while PENDING. -/
inductive LineMark where
  | none
  | pending (number : Nat)
  | complete
  deriving DecidableEq, Repr

/-- What the character handed to the modulator is (R86), until it is reported complete or cut. -/
inductive Handed where
  | flow
  | reply
  | answerback
  /-- A key-to-line character with its entry number. -/
  | key (entry : Nat)
  | plain
  /-- A character of a record before its check byte. -/
  | record
  | check
  | can
  deriving DecidableEq, Repr

structure Scheduler where
  sendQueue : List QueuedChain
  keyFifo : List KeyChar
  answerbackPending : Bool
  turn : Turn
  holdWait : Option LineHold
  /-- The reply timer of a reply wait (R97). -/
  replyTimer : Timer
  remoteFlow : Flow
  flowTimer : Timer
  breakRequest : BreakRequest
  withdrawalPending : Bool
  lastTurn : TurnKind
  lastChainPort : Port
  /-- The send-path masks: off, or on with the mask timer (R93). -/
  masks : PerPort Timer
  /-- How many entry numbers have been issued on the line path (R106, assumption 8). -/
  issued : Nat
  marks : PerPort LineMark
  handed : Option Handed
  deriving DecidableEq, Repr

/-- The scheduler after the RESET pin and CONTROLLER RESET (R84). -/
def Scheduler.reset : Scheduler where
  sendQueue := []
  keyFifo := []
  answerbackPending := false
  turn := .none
  holdWait := none
  replyTimer := none
  remoteFlow := .xon
  flowTimer := none
  breakRequest := .none
  withdrawalPending := false
  lastTurn := .key
  lastChainPort := .b
  masks := ⟨none, none⟩
  issued := 0
  marks := ⟨.none, .none⟩
  handed := none

/-! ## Keyboard scanner (chapter 6) -/

/-- A debounce record (R111): the stable level (true for DOWN) and the agree count. -/
structure Debounce where
  down : Bool
  agree : Nat
  deriving DecidableEq, Repr

/-- The classes whose keys give a code (R115). -/
inductive KeyClass where
  | char
  | edit
  | function
  deriving DecidableEq, Repr

/-- The modifiers as they stood at a press (R116). -/
structure Modifiers where
  shift : Bool
  ctrl : Bool
  caps : Bool
  deriving DecidableEq, Repr

/-- The repeat key with what was kept at its press (R117). -/
structure RepeatKey where
  position : KeyPos
  code : Byte
  cls : KeyClass
  mods : Modifiers
  /-- The repeat interval noted at the press, in µs. -/
  interval : Nat
  deriving DecidableEq, Repr

/-- An entry of the key queue (R121). -/
structure KeyEntry where
  code : Byte
  cls : KeyClass
  mods : Modifiers
  repeated : Bool
  tag : Port
  deriving DecidableEq, Repr

structure Keyboard where
  debounce : Vector Debounce 80
  down : List KeyPos
  caps : Bool
  repeatKey : Option RepeatKey
  repeatTimer : Timer
  queue : List KeyEntry
  focus : Option Port
  /-- The focus-wanted flag: clear, or the wanting port (R123). -/
  wanted : Option Port
  attached : PerPort Bool
  /-- The 5 ms scan cadence (R110). -/
  scanTimer : Timer
  deriving DecidableEq, Repr

/-- The scanner after the RESET pin (R127). -/
def Keyboard.reset : Keyboard where
  debounce := Vector.replicate 80 ⟨false, 0⟩
  down := []
  caps := false
  repeatKey := none
  repeatTimer := none
  queue := []
  focus := none
  wanted := none
  attached := ⟨false, false⟩
  scanTimer := some 5000

/-! ## Print arbiter and line composer (chapter 7) -/

/-- A glyph of the font (R151). -/
inductive Glyph where
  | code (byte : Byte)
  | flaw
  deriving DecidableEq, Repr

/-- A cell of the line buffer, holding 0, 1 or 2 glyphs (R141). -/
inductive Cell where
  | empty
  | one (glyph : Glyph)
  | two (first second : Glyph)
  deriving DecidableEq, Repr

/-- The line buffer: 80 cells and a column from 0 to 80 (R141). -/
structure LineBuffer where
  cells : Vector Cell 80
  column : Nat
  deriving DecidableEq, Repr

/-- A new line: every cell empty, the column at 0 (R141). -/
def LineBuffer.empty : LineBuffer := ⟨Vector.replicate 80 .empty, 0⟩

/-- The three kinds of job of the print queue (R130). -/
inductive JobKind where
  | print
  | copy
  | auto
  deriving DecidableEq, Repr

/-- A job of the print queue (R129). -/
structure Job where
  kind : JobKind
  /-- The chain's head, or the receive slot. -/
  slot : SlotId
  owner : Port
  priority : Nat
  entry : Nat
  deriving DecidableEq, Repr

/-- The current unit (R129). `blanks` are the blank lines of an FF still to be handed (R142); `position` is how much
of the job's text has been composed, `completed` the number of its lines completed (R147). -/
inductive PrintUnit where
  | none
  | feed
  | live (source : LiveSource) (blanks : Nat)
  | job (job : Job) (position : Nat) (blanks : Nat) (completed : Nat)
  deriving DecidableEq, Repr

/-- The line-end state of a live source (R140). -/
inductive LineEnd where
  | normal
  | afterCr
  | afterFull
  deriving DecidableEq, Repr

/-- A print hold wait: the chain waited on, with its hold timer. The timer is stopped from the UNHOLD of the last
held member to the selection point at which the chain is asked to start (R135). -/
structure PrintHold where
  head : SlotId
  timer : Timer
  deriving DecidableEq, Repr

inductive UnitKind where
  | live
  | queue
  deriving DecidableEq, Repr

/-- The record of a pending print drain mark (R145). -/
structure MarkRecord where
  number : Nat
  lds : Nat
  lcs : Nat
  feeds : Nat
  lineOwed : Bool
  deriving DecidableEq, Repr

inductive PrintMark where
  | none
  | pending (record : MarkRecord)
  | complete
  deriving DecidableEq, Repr

structure Arbiter where
  queue : List Job
  /-- How many entry numbers have been issued on the print path (R130, assumption 8). -/
  issued : Nat
  /-- The local copy buffer, oldest first (R131). -/
  copyBuffer : List Byte
  /-- LCS's live silence timer (R131). -/
  silence : Silence
  feeds : Nat
  unit : PrintUnit
  buffer : LineBuffer
  ldsEnd : LineEnd
  lcsEnd : LineEnd
  holdWait : Option PrintHold
  withdrawalPending : Bool
  lastUnit : UnitKind
  lastJobPort : Port
  /-- The print-path masks: off, or on with the mask timer (R136). -/
  masks : PerPort Timer
  marks : PerPort PrintMark
  deriving DecidableEq, Repr

/-- The arbiter after the RESET pin (R129). -/
def Arbiter.reset : Arbiter where
  queue := []
  issued := 0
  copyBuffer := []
  silence := ⟨none, false⟩
  feeds := 0
  unit := .none
  buffer := LineBuffer.empty
  ldsEnd := .normal
  lcsEnd := .normal
  holdWait := none
  withdrawalPending := false
  lastUnit := .queue
  lastJobPort := .b
  masks := ⟨none, none⟩
  marks := ⟨.none, .none⟩

/-! ## Row engine (chapter 8) -/

inductive EngineState where
  | idle
  | row
  | blank
  | held
  deriving DecidableEq, Repr

/-- A text line as the composer hands it (R149). -/
inductive TextLine where
  | blank
  | cells (cells : Vector Cell 80)
  deriving DecidableEq, Repr

/-- Where the firing of a row stands (R157). -/
inductive FirePhase where
  /-- From a group's beginning to Ts. -/
  | phase1
  /-- From Ts to Td. -/
  | phase2
  /-- Between two groups. -/
  | gap
  /-- After the last group, or in a row without groups. -/
  | done
  deriving DecidableEq, Repr

/-- The row being fired: its dots, those of them not black in P before it, the strobe times and the dot limit computed
for it, which stand to the end of its step (R164), its firing groups as sets of strobes, and the group reached. -/
structure Firing where
  row : Dots
  fresh : Dots
  td : Nat
  ts : Nat
  nmax : Nat
  groups : List (BitVec 16)
  index : Nat
  phase : FirePhase
  deriving DecidableEq, Repr

/-- The last row record (R159). -/
structure RowRecord where
  v : Nat
  th : Int
  td : Nat
  ts : Nat
  nmax : Nat
  groups : Nat
  period : Nat
  deriving DecidableEq, Repr

structure Engine where
  state : EngineState
  line : Option TextLine
  step : Nat
  stopRequested : Bool
  /-- The previous-row pattern P (R151). -/
  previous : Dots
  supply : Bool
  heat : Bool
  paper : Bool
  /-- Whether the battery and the head measurement are judged; awaited otherwise (R152). -/
  batteryJudged : Bool
  headJudged : Bool
  paperOutPending : Bool
  paperTimer : Timer
  /-- The last paper reading: true for OUT. -/
  lastPaperOut : Bool
  /-- The 10 ms paper sample cadence (R161). -/
  sampleTimer : Timer
  phaseIndex : Fin 4
  stepCounter : BitVec 16
  record : RowRecord
  firing : Option Firing
  /-- The pattern latched in the head (R158). -/
  latch : Dots
  /-- The strobe lines asserted, bit b for STBb (R158). -/
  strobes : BitVec 16
  /-- What is left of the row period or blank step (R159). -/
  stepTimer : Timer
  /-- What is left to the next change of the row's firing (R157). -/
  groupTimer : Timer
  deriving DecidableEq, Repr

/-- The row engine after the RESET pin (R149). DESIGN CHOICE (assumption 44): the latch of the head, to which neither
R149 nor R158 gives a value there, is empty. -/
def Engine.reset : Engine where
  state := .idle
  line := none
  step := 0
  stopRequested := false
  previous := 0
  supply := false
  heat := false
  paper := false
  batteryJudged := false
  headJudged := false
  paperOutPending := false
  paperTimer := none
  lastPaperOut := false
  sampleTimer := some 10000
  phaseIndex := 0
  stepCounter := 0
  record := ⟨0, 0, 0, 0, 0, 0, 0⟩
  firing := none
  latch := 0
  strobes := 0
  stepTimer := none
  groupTimer := none

/-! ## Supply monitor (chapter 9) -/

structure Monitor where
  /-- Latest battery measurement in mV. -/
  v : Nat
  batteryTaken : Bool
  /-- Latest head measurement in °C. -/
  th : Int
  headTaken : Bool
  supplyLow : Bool
  batteryDue : Bool
  /-- The blink clock: true for LIT. -/
  blinkLit : Bool
  /-- The beeper: SILENT, or SOUNDING with its burst timer (R172). -/
  burst : Timer
  batteryTimer : Timer
  headTimer : Timer
  blinkTimer : Timer
  deriving DecidableEq, Repr

/-- The monitor at the release of RESETN (R166, R171). -/
def Monitor.reset : Monitor where
  v := 0
  batteryTaken := false
  th := 0
  headTaken := false
  supplyLow := false
  batteryDue := false
  blinkLit := true
  burst := none
  batteryTimer := some 10000
  headTimer := some 100000
  blinkTimer := some 250000

/-! ## Event units (chapter 10) -/

/-- The alert conditions, in the order of their bits (R180, R194). -/
inductive Alert where
  | paperOut
  | supplyLow
  | printStall
  | rxOverflow
  | keyOverflow
  | flowTimeout
  | breakReceived
  | holdExpired
  deriving DecidableEq, Repr

inductive LostReason where
  | overwritten
  | dropped
  deriving DecidableEq, Repr

inductive KeysReason where
  | entry
  | focusWanted
  | focusGranted
  | focusLost
  deriving DecidableEq, Repr

inductive PortReason where
  | short
  | unknown
  | timeout
  deriving DecidableEq, Repr

/-- The detail of an occurrence, by source (R175). -/
inductive EventDetail where
  | ended (head : SlotId) (outcome : EndOutcome)
  | received (slot : SlotId) (route : Byte)
  | lost (reason : LostReason) (slot : SlotId) (route : Byte)
  | keys (reason : KeysReason) (holder : Option Port) (entries : Nat)
  | line (state : SupState) (reason : LineReason)
  | drained (path : Path)
  | alert (condition : Alert) (latched : BitVec 8)
  | port (reason : PortReason) (cmd : Option Byte)
  deriving DecidableEq, Repr

/-- A set pending flag with its detail and its occurrences, 1 to 255 (R174). -/
structure Occurrence where
  detail : EventDetail
  count : Nat
  deriving DecidableEq, Repr

structure EventUnit where
  /-- For each source 0 to 7: the flag clear, or set with detail and occurrences. -/
  sources : Vector (Option Occurrence) 8
  /-- Bit n set: source n is masked. -/
  masks : BitVec 8
  pointer : Fin 8
  enables : BitVec 8
  latched : BitVec 8
  deriving DecidableEq, Repr

/-- An event unit after the RESET pin (R174). -/
def EventUnit.reset : EventUnit where
  sources := Vector.replicate 8 none
  masks := 0xFF
  pointer := 7
  enables := 0xFF
  latched := 0

/-! ## Ports and settings (chapter 11) -/

/-- Port A's select (R183, R188): none, one whose command has executed with the bytes of its answer, or one being
ignored to its end. -/
inductive PortASelect where
  | none
  | answered (response : List Byte)
  | ignored
  deriving DecidableEq, Repr

/-- RESETN held low, the 2 ms after its release, and service (R188). -/
inductive Power where
  | held
  | ignoring
  | serving
  deriving DecidableEq, Repr

inductive Parity where
  | none
  | even
  | odd
  | mark
  deriving DecidableEq, Repr

inductive TurnMode where
  | keysFirst
  | alternate
  | queueFirst
  deriving DecidableEq, Repr

inductive Sink where
  | print
  | portA
  | portB
  | discard
  deriving DecidableEq, Repr

inductive PrintMode where
  | liveFirst
  | alternate
  | queueFirst
  deriving DecidableEq, Repr

inductive KeyMode where
  | queue
  | line
  | lineCopy
  deriving DecidableEq, Repr

inductive LampMode where
  | auto
  | off
  | on
  | blink
  deriving DecidableEq, Repr

/-- The settings of R191's table, in its units. -/
structure Settings where
  lineSpeed : Nat
  dataBits : Nat
  parity : Parity
  stopBits : Nat
  qualifyTime : Nat
  fadeTime : Nat
  connectTimeout : Nat
  replyTimeout : Nat
  attemptLimit : Nat
  flowLimit : Nat
  turnMode : TurnMode
  holdTimeout : Nat
  maskTime : Nat
  sink : Sink
  printMode : PrintMode
  density : Nat
  repeatDelay : Nat
  repeatRate : Nat
  keyMode : PerPort KeyMode
  lampLine : LampMode
  lampPaper : LampMode
  lampSupply : LampMode
  lampFocus : LampMode
  beeper : Bool
  deriving DecidableEq, Repr

/-- The defaults of R191's table. -/
def Settings.default : Settings where
  lineSpeed := 300
  dataBits := 7
  parity := .even
  stopBits := 1
  qualifyTime := 150
  fadeTime := 400
  connectTimeout := 30
  replyTimeout := 4
  attemptLimit := 3
  flowLimit := 60
  turnMode := .alternate
  holdTimeout := 2000
  maskTime := 1000
  sink := .print
  printMode := .liveFirst
  density := 8
  repeatDelay := 500
  repeatRate := 10
  keyMode := ⟨.queue, .queue⟩
  lampLine := .auto
  lampPaper := .auto
  lampSupply := .auto
  lampFocus := .auto
  beeper := true

/-! ## The whole part -/

/-- The whole state, block by block, and the queue of the commands that are waiting, first in, first out. -/
structure State where
  slots : Vector Slot 24
  modem : Modem
  sup : Supervisor
  parser : Parser
  sched : Scheduler
  kbd : Keyboard
  arb : Arbiter
  engine : Engine
  monitor : Monitor
  events : PerPort EventUnit
  settings : Settings
  portA : PortASelect
  /-- Port B's last response: the result code, then the data (R186). -/
  lastB : List Byte
  /-- The level of the ADDR pin, true for high (section 11.1). The board ties it; no command changes it. -/
  addrHigh : Bool
  power : Power
  /-- What is left of the 2 ms after the release of RESETN (R188). -/
  startupTimer : Timer
  /-- The model's own field (assumption 40): how many start-ups have been completed, for the free value
  `Config.selectAtStartup`. -/
  startups : Nat
  pending : List Instr
  deriving DecidableEq, Repr

/-- The part after the RESET pin or power-on, with RESETN released and both ports served (assumption 1), ADDR low
(assumption 38). -/
def State.reset : State where
  slots := (Vector.replicate 24 Slot.unclaimed).set 0 Slot.standing
  modem := Modem.reset
  sup := Supervisor.reset
  parser := Parser.reset
  sched := Scheduler.reset
  kbd := Keyboard.reset
  arb := Arbiter.reset
  engine := Engine.reset
  monitor := Monitor.reset
  events := ⟨EventUnit.reset, EventUnit.reset⟩
  settings := Settings.default
  portA := .none
  lastB := [0x02]
  addrHigh := false
  power := .serving
  startupTimer := none
  startups := 0
  pending := []

end Sys2Proof.Machine
end

