-- ==== Sys2Proof/Machine/Ops.lean ====
section
/-! DEFINITION. The shared operations over the state: per-port values, events and alerts, the beeper, the slot store's
accessors and the requests of R24, the two drain marks, and the entries of the two queues. -/

namespace Sys2Proof.Machine

open Sys2Proof

/-! ## Per-port values -/

/-- "The other port" of the manual's conventions. -/
def otherPort : Port → Port
  | .a => .b
  | .b => .a

def PerPort.get {α : Type} (x : PerPort α) : Port → α
  | .a => x.a
  | .b => x.b

def PerPort.set {α : Type} (x : PerPort α) (p : Port) (v : α) : PerPort α :=
  match p with
  | .a => { x with a := v }
  | .b => { x with b := v }

/-- The port code of a response: 0 none, 1 A, 2 B (R194). -/
def portCode : Option Port → Nat
  | none => 0
  | some .a => 1
  | some .b => 2

/-- Bit `i` of a set of at most eight, as a mask. -/
def bit8 (i : Nat) : BitVec 8 := 1#8 <<< i

/-- Milliseconds as the microseconds of a timer. -/
def ms (n : Nat) : Nat := n * 1000

/-- Seconds as the microseconds of a timer. -/
def seconds (n : Nat) : Nat := n * 1000000

/-! ## Events, alerts and the beeper -/

/-- The source of an event, by its detail (R175). -/
def EventDetail.source : EventDetail → Fin 8
  | .ended _ _ => 0
  | .received _ _ => 1
  | .lost _ _ _ => 2
  | .keys _ _ _ => 3
  | .line _ _ => 4
  | .drained _ => 5
  | .alert _ _ => 6
  | .port _ _ => 7

/-- The occurrences of a source: 0 while its flag is clear (R174). -/
def EventUnit.occurrences (u : EventUnit) (n : Fin 8) : Nat :=
  match u.sources[n] with
  | none => 0
  | some o => o.count

/-- An event raised at a unit (R175). -/
def EventUnit.raise (u : EventUnit) (d : EventDetail) : EventUnit :=
  { u with sources := u.sources.set d.source (some ⟨d, min 255 (u.occurrences d.source + 1)⟩) }

/-- An alert's bit number (R194). -/
def Alert.index : Alert → Nat
  | .paperOut => 0
  | .supplyLow => 1
  | .printStall => 2
  | .rxOverflow => 3
  | .keyOverflow => 4
  | .flowTimeout => 5
  | .breakReceived => 6
  | .holdExpired => 7

/-- A unit takes an alert condition: latched and raised when its enable is on, nothing otherwise (R180). -/
def EventUnit.takeAlert (u : EventUnit) (c : Alert) : EventUnit :=
  if u.enables.getLsbD c.index then
    let latched := u.latched ||| bit8 c.index
    { u with latched := latched }.raise (.alert c latched)
  else u

/-- An event raised for one port (R175). -/
def State.raise (s : State) (p : Port) (d : EventDetail) : State :=
  { s with events := s.events.set p ((s.events.get p).raise d) }

/-- An event raised for both ports. -/
def State.raiseBoth (s : State) (d : EventDetail) : State := (s.raise .a d).raise .b d

/-- An alert condition raised for one port (R180). -/
def State.alert (s : State) (p : Port) (c : Alert) : State :=
  { s with events := s.events.set p ((s.events.get p).takeAlert c) }

/-- An alert condition raised for both ports, each judging it by its own enable (R180). -/
def State.alertBoth (s : State) (c : Alert) : State := (s.alert .a c).alert .b c

/-- An alert condition raised for a port, or for no port (R10, R94). -/
def State.alertOwner (s : State) (p : Option Port) (c : Alert) : State :=
  match p with
  | none => s
  | some q => s.alert q c

/-- A beep request (R172): discarded with beeper_enable OFF, merged with a burst under way, else a 100 ms burst. -/
def State.beep (s : State) : State :=
  if s.settings.beeper && s.monitor.burst.isNone then { s with monitor.burst := some (ms 100) } else s

/-- How many key queue entries are tagged with a port. -/
def State.keyCount (s : State) (p : Port) : Nat := (s.kbd.queue.filter (·.tag = p)).length

/-- A KEYS event, whose detail is the holder and the port's entries after the event (R123). -/
def State.raiseKeys (s : State) (p : Port) (r : KeysReason) : State :=
  s.raise p (.keys r s.kbd.focus (s.keyCount p))

/-! ## Line counters -/

/-- A line counter raised by one, staying at 65535 (R82). -/
def bump (n : Nat) : Nat := if n < 65535 then n + 1 else 65535

/-! ## Slot store accessors -/

def State.slot (s : State) (i : SlotId) : Slot := s.slots[i]

def State.setSlot (s : State) (i : SlotId) (x : Slot) : State := { s with slots := s.slots.set i x }

/-- Every slot replaced by `f` of its number and itself. -/
def State.mapSlots (s : State) (f : SlotId → Slot → Slot) : State :=
  { s with slots := Vector.ofFn fun i => f i s.slots[i] }

/-- The slot numbers satisfying `f`, in ascending order. -/
def State.slotsWhere (s : State) (f : SlotId → Slot → Bool) : List SlotId :=
  (List.finRange 24).filter fun i => f i (s.slot i)

/-- How many slots a port owns, slot 0 included (R1). -/
def State.owned (s : State) (p : Port) : Nat := (s.slotsWhere fun _ x => x.owner = some p).length

/-- An end state (R1). -/
def SlotState.isEnd : SlotState → Bool
  | .done | .aborted | .failed => true
  | _ => false

/-- A kind of slot that belongs to chains. -/
def Slot.isChainKind (x : Slot) : Bool := x.kind = some .send || x.kind = some .print

/-- The text of a slot, from position 0 to its length − 1. -/
def Slot.content (x : Slot) : List Byte := x.text.toList.take x.length

/-- The slots reached from a slot through successor links, at most `n` of them. -/
def walkFrom (slots : Vector Slot 24) : Nat → SlotId → List SlotId
  | 0, _ => []
  | n + 1, i =>
    i :: match slots[i].successor with
      | none => []
      | some j => walkFrom slots n j

/-- The members of a chain in chain order: at most 8 (R16). -/
def State.members (s : State) (h : SlotId) : List SlotId := walkFrom s.slots 8 h

/-- Every member of the chain of head `h` replaced (R17). -/
def State.mapChain (s : State) (h : SlotId) (f : Slot → Slot) : State :=
  s.mapSlots fun _ x => if x.chainHead = some h then f x else x

/-- Whether a member of the chain of head `h` has its hold flag on (R89, R134). -/
def State.chainHeld (s : State) (h : SlotId) : Bool := (s.members h).any fun i => (s.slot i).hold

/-- An ENDED event for the owner of the chain of head `h` (R24). -/
def State.raiseEnded (s : State) (h : SlotId) (o : EndOutcome) : State :=
  match (s.slot h).owner with
  | none => s
  | some p => s.raise p (.ended h o)

/-- Whether a request on the chain of head `h` finds it in an expected state: the slot is its own chain head, of the
path's kind, in that state (R24, R25). -/
def State.requestFinds (s : State) (h : SlotId) (kind : Kind) (expected : List SlotState) : Bool :=
  (s.slot h).chainHead = some h && (s.slot h).kind = some kind && expected.contains (s.slot h).state

/-- A request on a chain (R24): taken when the head is found in an expected state, discarded otherwise (R25). An end
state sets the outcome and raises one ENDED event; hold flags, which only QUEUED slots have, are cleared. -/
def State.chainRequest (s : State) (h : SlotId) (kind : Kind) (expected : List SlotState) (new : SlotState)
    (o : Option EndOutcome) : State :=
  if s.requestFinds h kind expected then
    let s' := s.mapChain h fun x => { x with state := new, outcome := o, hold := false }
    match o with
    | none => s'
    | some r => s'.raiseEnded h r
  else s

/-! ## Drain marks -/

/-- The entry numbers of the units that remain on the line path (R106). -/
def State.lineEntries (s : State) : List Nat :=
  s.sched.sendQueue.map (·.entry)
    ++ (match s.sched.turn with
        | .chain ct => [ct.entry]
        | .answerback _ (some ct) => [ct.entry]
        | _ => [])
    ++ s.sched.keyFifo.map (·.entry)
    ++ (match s.sched.handed with
        | some (.key e) => [e]
        | _ => [])

/-- A port's line drain mark tested (R108). -/
def State.testLineMark (s : State) (p : Port) : State :=
  match s.sched.marks.get p with
  | .pending n =>
    if s.lineEntries.all (fun e => decide (n < e)) then
      { s with sched.marks := s.sched.marks.set p .complete }.raise p (.drained .line)
    else s
  | _ => s

/-- Both line drain marks tested (R108). -/
def State.testLineMarks (s : State) : State := (s.testLineMark .a).testLineMark .b

/-- The entry numbers of the jobs in the print queue, in a hold wait or in the current unit (R146). A chain in a hold
wait is still in the queue. -/
def State.printEntries (s : State) : List Nat :=
  s.arb.queue.map (·.entry)
    ++ (match s.arb.unit with
        | .job j _ _ _ => [j.entry]
        | _ => [])

/-- A port's print drain mark tested (R146). -/
def State.testPrintMark (s : State) (p : Port) : State :=
  match s.arb.marks.get p with
  | .pending r =>
    if s.printEntries.all (fun e => decide (r.number < e)) && r.lds = 0 && r.lcs = 0 && r.feeds = 0
        && !r.lineOwed then
      { s with arb.marks := s.arb.marks.set p .complete }.raise p (.drained .print)
    else s
  | _ => s

/-- Both print drain marks tested (R146). -/
def State.testPrintMarks (s : State) : State := (s.testPrintMark .a).testPrintMark .b

/-- A change of the record of each pending print mark (R145). -/
def PrintMark.change (m : PrintMark) (f : MarkRecord → MarkRecord) : PrintMark :=
  match m with
  | .pending r => .pending (f r)
  | m => m

/-- The records of both print marks changed, and the marks tested (R145, R146). -/
def State.changePrintMarks (s : State) (f : MarkRecord → MarkRecord) : State :=
  { s with arb.marks := ⟨s.arb.marks.a.change f, s.arb.marks.b.change f⟩ }.testPrintMarks

/-! ## The two queues -/

/-- A chain entered in the send queue with the line path's next entry number (R85). -/
def State.enterSendQueue (s : State) (h : SlotId) : State :=
  { s with
    sched.issued := s.sched.issued + 1
    sched.sendQueue := s.sched.sendQueue ++ [⟨h, s.sched.issued + 1⟩] }

/-- A job entered in the print queue with the print path's next entry number, the slot's priority and owner (R130).
A slot without an owner, which no run reaches, enters nothing. -/
def State.enterPrintQueue (s : State) (k : JobKind) (i : SlotId) : State :=
  match (s.slot i).owner with
  | none => s
  | some p =>
    { s with
      arb.issued := s.arb.issued + 1
      arb.queue := s.arb.queue ++ [⟨k, i, p, (s.slot i).priority, s.arb.issued + 1⟩] }

/-- A job withdrawn from the print queue; it counts as gone for print drain marks (R130). -/
def State.dropJob (s : State) (k : JobKind) (i : SlotId) : State :=
  { s with arb.queue := s.arb.queue.filter fun j => !(j.kind = k && j.slot = i) }.testPrintMarks

/-- The entry count of a path as R106 and R130 state it, 0 to 65535, from the number of entries issued: it wraps
from 65535 to 1. -/
def entryCount (issued : Nat) : Nat := if issued = 0 then 0 else (issued - 1) % 65535 + 1

/-- The least element of a list by `f`, the first of them where several are least. -/
def leastBy {α : Type} (f : α → Nat) : List α → Option α
  | [] => none
  | x :: xs =>
    match leastBy f xs with
    | none => some x
    | some y => if f x ≤ f y then some x else some y

/-- The selection rule of R89 and R134 over the eligible units: the highest priority; among those a unit of the port
other than `last`, when it has one; within the chosen port the lowest entry number. -/
def pickUnit {α : Type} (priority entry : α → Nat) (owner : α → Option Port) (last : Port) (l : List α) : Option α :=
  let top := (l.map priority).foldl max 0
  let best := l.filter fun x => priority x = top
  let other := best.filter fun x => owner x = some (otherPort last)
  leastBy entry (if other.isEmpty then best else other)

end Sys2Proof.Machine
end

