-- ==== Sys2Proof/Machine/Flags.lean ====
section
/-! DEFINITION. What the output pins show, read from the state: the interrupt outputs, the lamps, the beeper, the
motor phases and the coupler's speaker. -/

namespace Sys2Proof.Machine

open Sys2Proof

/-- Whether a source of a unit is pending and unmasked (R176). -/
def EventUnit.ready (u : EventUnit) (n : Fin 8) : Bool := u.sources[n].isSome && !u.masks.getLsbD n

/-- Whether a unit's interrupt output is asserted, that is, driven low (R176). -/
def EventUnit.asserted (u : EventUnit) : Bool := (List.finRange 8).any u.ready

/-- INTAN and INTBN: asserted (low) or released; both are released while RESETN is held low (R188). -/
def State.interruptAsserted (s : State) (p : Port) : Bool :=
  s.power ≠ .held && (s.events.get p).asserted

/-- The level a lamp shows (R170, R173). -/
inductive LampLevel where
  | dark
  | lit
  | blinking
  deriving DecidableEq, Repr

/-- The level of a lamp from its mode and its AUTO level (R170, R171). -/
def lampLevel (m : LampMode) (auto : LampLevel) : LampLevel :=
  match m with
  | .auto => auto
  | .off => .dark
  | .on => .lit
  | .blink => .blinking

/-- The LINE lamp's AUTO level (R170). -/
def State.lineAuto (s : State) : LampLevel :=
  if s.sup.state = .calling || s.sup.state = .answering || s.sup.state = .clearing || s.modem.carrier = .fading then
    .blinking
  else if s.sup.state = .online then .lit
  else .dark

/-- The PAPER lamp's AUTO level (R170). -/
def State.paperAuto (s : State) : LampLevel := if s.engine.paper then .lit else .dark

/-- The SUPPLY lamp's AUTO level: On takes the place of Blink (R170). -/
def State.supplyAuto (s : State) : LampLevel :=
  if s.engine.supply || s.engine.heat then .lit
  else if s.monitor.supplyLow then .blinking
  else .dark

/-- The FOCUS lamp's AUTO level: Blink takes the place of On (R170). -/
def State.focusAuto (s : State) : LampLevel :=
  if s.kbd.wanted.isSome then .blinking
  else if s.kbd.focus = some .b then .lit
  else .dark

/-- The levels the four lamps show, LINE, PAPER, SUPPLY, FOCUS (R173). -/
def State.lampLevels (s : State) : List LampLevel :=
  [lampLevel s.settings.lampLine s.lineAuto, lampLevel s.settings.lampPaper s.paperAuto,
    lampLevel s.settings.lampSupply s.supplyAuto, lampLevel s.settings.lampFocus s.focusAuto]

/-- LMP0 to LMP3: whether each lamp is lit now. All blinking lamps follow the blink clock (R171), and every lamp is
dark while RESETN is held low (R166). -/
def State.lampPins (s : State) : List Bool :=
  s.lampLevels.map fun l =>
    s.power ≠ .held && match l with
      | .dark => false
      | .lit => true
      | .blinking => s.monitor.blinkLit

/-- The BEEP pin: a 2000 Hz square wave during a burst, low outside one (R172). The level at the burst's start is the
free value `Config.beepStart` (assumption 24). -/
def State.beepPin (s : State) : Bool :=
  match s.monitor.burst with
  | none => false
  | some left => if ((100000 - left) / 250) % 2 = 0 then Config.beepStart else !Config.beepStart

/-- MP0 to MP3 energised (R160): the pattern of the phase index while a line is present, all off in IDLE. -/
def State.motorPins (s : State) : List Bool :=
  let on := s.engine.state ≠ .idle
  let i := s.engine.phaseIndex
  (List.finRange 4).map fun m => on && (m = i || m = i + 1)

/-- The dots heated at this moment: latched and in a block whose strobe is asserted (R158). -/
def State.heated (s : State) (d : Nat) : Bool :=
  s.engine.latch.getLsbD d && s.engine.strobes.getLsbD (d / 40)

/-- The band a mode transmits in: true for the high band (R27). -/
def transmitHigh : Mode → Bool
  | .originate => false
  | .answer => true
  | .loop => false

/-- The band a mode receives in: true for the high band (R27). -/
def receiveHigh : Mode → Bool
  | .originate => true
  | .answer => false
  | .loop => false

/-- Whether the speaker is driven: in LOOP it is muted, and it is silent while the carrier is off (R27, R29). -/
def State.speakerSounds (s : State) : Bool := s.modem.modulator ≠ .off && s.modem.mode ≠ .loop

/-- What drives the speaker (R28, R29): its rest level, or a sine of fixed amplitude, which the manual does not state,
taken at `phase`/65536 of a full turn. -/
inductive SpeakerDrive where
  | rest
  | sine (phase : BitVec 16)
  deriving DecidableEq, Repr

/-- The drive of SPK (R27 to R29): the sine of the accumulated phase, at rest while the carrier is off and in LOOP. -/
def State.speakerDrive (s : State) : SpeakerDrive := if s.speakerSounds then .sine s.modem.phase else .rest

/-- What feeds the demodulator (R27). -/
inductive DemodInput where
  | microphone
  | modulator
  deriving DecidableEq, Repr

/-- The demodulator input of a mode (R27): MIC, or in LOOP the modulator's own output. -/
def demodInput : Mode → DemodInput
  | .originate => .microphone
  | .answer => .microphone
  | .loop => .modulator

/-- The sign of the modulator's own sample, true for positive, which LOOP feeds to the demodulator (R28, R46): that of
the sine of the phase. At the two phases whose sine is 0 it is the free value `Config.zeroSampleSign` (assumption 39). -/
def Modem.sampleSign (m : Modem) : Bool :=
  if m.phase = 0 || m.phase = 0x8000 then Config.zeroSampleSign else !m.phase.getLsbD 15

end Sys2Proof.Machine
end

