-- ==== Sys2Proof/Machine/Operands.lean ====
section
/-! DEFINITION. The coded arguments of section 11.5, the result codes of R190, the byte order of R194, and the slot
tests of R5. -/

namespace Sys2Proof.Machine

open Sys2Proof

/-- The result codes (R190). -/
inductive Result where
  | ok
  | okClamped
  | empty
  | unknown
  | badArg
  | noSlot
  | quota
  | notOwner
  | wrongState
  | busy
  | notHeld
  | badChain
  | lineBusy
  | lineIdle
  | focusHeld
  | notPosted
  deriving DecidableEq, Repr

/-- The byte of a result code (R190). -/
def resultByte : Result → Byte
  | .ok => 0x00
  | .okClamped => 0x01
  | .empty => 0x02
  | .unknown => 0x80
  | .badArg => 0x81
  | .noSlot => 0x82
  | .quota => 0x83
  | .notOwner => 0x84
  | .wrongState => 0x85
  | .busy => 0x86
  | .notHeld => 0x87
  | .badChain => 0x88
  | .lineBusy => 0x89
  | .lineIdle => 0x8A
  | .focusHeld => 0x8B
  | .notPosted => 0x8C

/-- An answer: the result code, then the response data (R190). -/
structure Response where
  code : Result
  data : List Byte
  deriving DecidableEq, Repr

/-- The bytes of an answer as a port sends them. -/
def responseBytes (r : Response) : List Byte := resultByte r.code :: r.data

/-- A command refused with a result code: nothing changes. -/
def refuse (r : Result) (s : State) : State × Response := (s, ⟨r, []⟩)

/-- A command taken with a result code and no data. -/
def answer (r : Result) (s : State) : State × Response := (s, ⟨r, []⟩)

/-- A number as one byte. -/
def byteOf (n : Nat) : Byte := BitVec.ofNat 8 n

/-- A two-byte value, most significant byte first (R194). -/
def wordBytes (n : Nat) : List Byte := [byteOf (n / 256), byteOf n]

/-- A temperature as a signed byte (R194). -/
def signedByte (i : Int) : Byte := BitVec.ofInt 8 i

/-- A number of flag bits, from a list of booleans, bit 0 first. -/
def flagBits : List Bool → Nat
  | [] => 0
  | b :: bs => (if b then 1 else 0) + 2 * flagBits bs

/-- A field that is absent reads 0xFF (R194). -/
def absentByte : Byte := 0xFF

/-- The byte of an optional field: 0xFF when absent (R194). -/
def optionByte {α : Type} (f : α → Nat) : Option α → Byte
  | none => absentByte
  | some x => byteOf (f x)

/-- A slot argument: a number above 23 names no slot (R5). -/
def slotArg (b : Byte) : Option SlotId :=
  if h : b.toNat < 24 then some ⟨b.toNat, h⟩ else none

/-- A successor argument: 0xFF for none, or a slot number from 1 to 23; anything else is out of range (R11). -/
def successorArg (b : Byte) : Option (Option SlotId) :=
  if b = 0xFF then some none
  else if b = 0 then none
  else (slotArg b).map some

def framingArg (b : Byte) : Option Framing :=
  if b = 0 then some .plain else if b = 1 then some .record else none

def classArg (b : Byte) : Option RecordClass :=
  if b = 0x43 then some .c else if b = 0x4E then some .n else none

/-- The byte of a class: 'C' or 'N'. -/
def classByte : RecordClass → Byte
  | .c => 0x43
  | .n => 0x4E

/-- A route code: a letter 'A'–'Z' or a digit '0'–'9'. -/
def isRouteCode (b : Byte) : Bool := (0x41 ≤ b && b ≤ 0x5A) || (0x30 ≤ b && b ≤ 0x39)

/-- The route ANY (section 11.5). -/
def routeAny : Byte := 0x2A

def modeArg (b : Byte) : Option Mode :=
  if b = 0 then some .originate else if b = 1 then some .answer else if b = 2 then some .loop else none

def kindArg (b : Byte) : Option Kind :=
  if b = 0 then some .send
  else if b = 1 then some .print
  else if b = 2 then some .receive
  else if b = 3 then some .answerback
  else none

def pathArg (b : Byte) : Option Path :=
  if b = 0 then some .line else if b = 1 then some .print else none

/-- The tests 1 to 3 of R5 on a slot command: the slot it goes on with, or the refusal. `anyPort` for the commands
that any port may send to slot 0. -/
def slotTest (s : State) (p : Port) (slot : Byte) (anyPort : Bool) : Except Result SlotId :=
  match slotArg slot with
  | none => .error .badArg
  | some i =>
    if (s.slot i).state = .free then .error .wrongState
    else if (s.slot i).owner = some p || (anyPort && i = 0) then .ok i
    else .error .notOwner

/-- A slot command (R5): refused at the first failed test, otherwise `f` on the slot. -/
def onSlot (s : State) (p : Port) (slot : Byte) (anyPort : Bool) (f : SlotId → State × Response) : State × Response :=
  match slotTest s p slot anyPort with
  | .error r => refuse r s
  | .ok i => f i

end Sys2Proof.Machine
end

