-- ==== Sys2Proof/Machine/Settings.lean ====
section
/-! DEFINITION. The settings table of R191: numbers, ranges, steps, clamping, and the value of each setting as the
ports carry it. -/

namespace Sys2Proof.Machine

open Sys2Proof

/-- The settings, in the order of their numbers (R191). -/
inductive Setting where
  | lineSpeed
  | dataBits
  | parity
  | stopBits
  | qualifyTime
  | fadeTime
  | connectTimeout
  | replyTimeout
  | attemptLimit
  | flowLimit
  | turnMode
  | holdTimeout
  | maskTime
  | openTextSink
  | printMode
  | density
  | repeatDelay
  | repeatRate
  | keyModeA
  | keyModeB
  | lampLine
  | lampPaper
  | lampSupply
  | lampFocus
  | beeperEnable
  deriving DecidableEq, Repr

/-- The settings by number. -/
def settingList : List Setting :=
  [.lineSpeed, .dataBits, .parity, .stopBits, .qualifyTime, .fadeTime, .connectTimeout, .replyTimeout, .attemptLimit,
    .flowLimit, .turnMode, .holdTimeout, .maskTime, .openTextSink, .printMode, .density, .repeatDelay, .repeatRate,
    .keyModeA, .keyModeB, .lampLine, .lampPaper, .lampSupply, .lampFocus, .beeperEnable]

/-- A setting number of the table, or none (R191). -/
def settingArg (b : Byte) : Option Setting := settingList[b.toNat]?

/-- Whether a setting is a line setting (R60). -/
def Setting.isLine : Setting → Bool
  | .lineSpeed | .dataBits | .parity | .stopBits | .qualifyTime | .fadeTime | .connectTimeout | .replyTimeout
  | .attemptLimit | .flowLimit | .turnMode => true
  | _ => false

/-- A numeric value brought to a permitted one: the range, and the lower of two permitted values (R191). -/
def clampStep (lo hi step v : Nat) : Nat :=
  if v < lo then lo else if hi < v then hi else lo + (v - lo) / step * step

/-- The value CONFIGURE stores for a value given, or none where an enumerated setting has no such value (R191). -/
def Setting.permit (k : Setting) (v : Nat) : Option Nat :=
  match k with
  | .lineSpeed => some (if v < 150 then 110 else if v < 300 then 150 else 300)
  | .dataBits => some (clampStep 7 8 1 v)
  | .parity => if v < 4 then some v else none
  | .stopBits => some (clampStep 1 2 1 v)
  | .qualifyTime => some (clampStep 50 500 10 v)
  | .fadeTime => some (clampStep 100 2500 100 v)
  | .connectTimeout => some (clampStep 5 60 1 v)
  | .replyTimeout => some (clampStep 1 15 1 v)
  | .attemptLimit => some (clampStep 1 15 1 v)
  | .flowLimit => some (if v = 0 then 0 else clampStep 10 255 1 v)
  | .turnMode => if v < 3 then some v else none
  | .holdTimeout => some (clampStep 500 5000 100 v)
  | .maskTime => some (clampStep 250 4000 250 v)
  | .openTextSink => if v < 4 then some v else none
  | .printMode => if v < 3 then some v else none
  | .density => some (clampStep 0 15 1 v)
  | .repeatDelay => some (clampStep 250 1000 50 v)
  | .repeatRate => some (clampStep 5 30 1 v)
  | .keyModeA => if v < 3 then some v else none
  | .keyModeB => if v < 3 then some v else none
  | .lampLine => if v < 4 then some v else none
  | .lampPaper => if v < 4 then some v else none
  | .lampSupply => if v < 4 then some v else none
  | .lampFocus => if v < 4 then some v else none
  | .beeperEnable => if v < 2 then some v else none

def parityOf (n : Nat) : Parity := if n = 0 then .none else if n = 1 then .even else if n = 2 then .odd else .mark

def parityNumber : Parity → Nat
  | .none => 0
  | .even => 1
  | .odd => 2
  | .mark => 3

def turnModeOf (n : Nat) : TurnMode := if n = 0 then .keysFirst else if n = 1 then .alternate else .queueFirst

def turnModeNumber : TurnMode → Nat
  | .keysFirst => 0
  | .alternate => 1
  | .queueFirst => 2

def sinkOf (n : Nat) : Sink := if n = 0 then .print else if n = 1 then .portA else if n = 2 then .portB else .discard

def sinkNumber : Sink → Nat
  | .print => 0
  | .portA => 1
  | .portB => 2
  | .discard => 3

def printModeOf (n : Nat) : PrintMode := if n = 0 then .liveFirst else if n = 1 then .alternate else .queueFirst

def printModeNumber : PrintMode → Nat
  | .liveFirst => 0
  | .alternate => 1
  | .queueFirst => 2

def keyModeOf (n : Nat) : KeyMode := if n = 0 then .queue else if n = 1 then .line else .lineCopy

def keyModeNumber : KeyMode → Nat
  | .queue => 0
  | .line => 1
  | .lineCopy => 2

def lampModeOf (n : Nat) : LampMode := if n = 0 then .auto else if n = 1 then .off else if n = 2 then .on else .blink

def lampModeNumber : LampMode → Nat
  | .auto => 0
  | .off => 1
  | .on => 2
  | .blink => 3

/-- A setting's value, coded as in the table (R192). -/
def Settings.value (t : Settings) : Setting → Nat
  | .lineSpeed => t.lineSpeed
  | .dataBits => t.dataBits
  | .parity => parityNumber t.parity
  | .stopBits => t.stopBits
  | .qualifyTime => t.qualifyTime
  | .fadeTime => t.fadeTime
  | .connectTimeout => t.connectTimeout
  | .replyTimeout => t.replyTimeout
  | .attemptLimit => t.attemptLimit
  | .flowLimit => t.flowLimit
  | .turnMode => turnModeNumber t.turnMode
  | .holdTimeout => t.holdTimeout
  | .maskTime => t.maskTime
  | .openTextSink => sinkNumber t.sink
  | .printMode => printModeNumber t.printMode
  | .density => t.density
  | .repeatDelay => t.repeatDelay
  | .repeatRate => t.repeatRate
  | .keyModeA => keyModeNumber t.keyMode.a
  | .keyModeB => keyModeNumber t.keyMode.b
  | .lampLine => lampModeNumber t.lampLine
  | .lampPaper => lampModeNumber t.lampPaper
  | .lampSupply => lampModeNumber t.lampSupply
  | .lampFocus => lampModeNumber t.lampFocus
  | .beeperEnable => if t.beeper then 1 else 0

/-- A setting stored. -/
def Settings.store (t : Settings) (k : Setting) (v : Nat) : Settings :=
  match k with
  | .lineSpeed => { t with lineSpeed := v }
  | .dataBits => { t with dataBits := v }
  | .parity => { t with parity := parityOf v }
  | .stopBits => { t with stopBits := v }
  | .qualifyTime => { t with qualifyTime := v }
  | .fadeTime => { t with fadeTime := v }
  | .connectTimeout => { t with connectTimeout := v }
  | .replyTimeout => { t with replyTimeout := v }
  | .attemptLimit => { t with attemptLimit := v }
  | .flowLimit => { t with flowLimit := v }
  | .turnMode => { t with turnMode := turnModeOf v }
  | .holdTimeout => { t with holdTimeout := v }
  | .maskTime => { t with maskTime := v }
  | .openTextSink => { t with sink := sinkOf v }
  | .printMode => { t with printMode := printModeOf v }
  | .density => { t with density := v }
  | .repeatDelay => { t with repeatDelay := v }
  | .repeatRate => { t with repeatRate := v }
  | .keyModeA => { t with keyMode.a := keyModeOf v }
  | .keyModeB => { t with keyMode.b := keyModeOf v }
  | .lampLine => { t with lampLine := lampModeOf v }
  | .lampPaper => { t with lampPaper := lampModeOf v }
  | .lampSupply => { t with lampSupply := lampModeOf v }
  | .lampFocus => { t with lampFocus := lampModeOf v }
  | .beeperEnable => { t with beeper := v = 1 }

end Sys2Proof.Machine
end

