-- ==== Sys2Proof/Machine/Modem.lean ====
section
/-! DEFINITION. The line modem (chapter 2): the modulator and its frames, the demodulator's periods and levels, the
carrier status, and the bit sampler's counters. What the supervisor and the parser make of the modem's reports stands
in the line events' own file. -/

namespace Sys2Proof.Machine

open Sys2Proof

/-! ## Modulator -/

/-- The phase increment of a band and a tone (R28). -/
def increment (high : Bool) (l : Level) : BitVec 16 :=
  match high, l with
  | false, .mark => 2417
  | false, .space => 2007
  | true, .mark => 4588
  | true, .space => 4178

/-- The data bits of a byte, least significant first (R30): mark is 1. -/
def dataBitsOf (t : Settings) (b : Byte) : List Bool := (List.range t.dataBits).map b.getLsbD

/-- How many of a list of bits are mark. -/
def marks (l : List Bool) : Nat := (l.filter id).length

/-- The parity bit over the data bits as sent (R30), absent with NONE. -/
def parityBit (p : Parity) (data : List Bool) : Option Bool :=
  match p with
  | .none => none
  | .even => some (marks data % 2 = 1)
  | .odd => some (marks data % 2 = 0)
  | .mark => some true

def levelOf (b : Bool) : Level := if b then .mark else .space

/-- The frame of a character (R30): start bit, data bits, parity bit, stop bits. -/
def frameOf (t : Settings) (b : Byte) : List Level :=
  let data := dataBitsOf t b
  .space :: ((data ++ (parityBit t.parity data).toList).map levelOf ++ List.replicate t.stopBits .mark)

/-- The length of a break, 250 ms, in quarters of a µs (R31). -/
def breakQuarters : Nat := 4 * ms 250

/-- The level the modulator sends `quarter` quarters of a µs from now at a line speed (R29 to R31): of a frame, the
line bit reached, each bit lasting 1,000,000 / line_speed µs; of a break, space until its 250 ms are over. -/
def Modulator.levelAt (speed quarter : Nat) : Modulator → Level
  | .off => .mark
  | .markIdle => .mark
  | .character frame elapsed => frame.getD ((4 * elapsed + quarter) * speed / 4000000) .mark
  | .breaking none => .space
  | .breaking (some left) => if quarter < left then .space else .mark

/-- The level being sent now (R29 to R31). -/
def State.sendingLevel (s : State) : Level := s.modem.modulator.levelAt s.settings.lineSpeed 0

/-- At which quarter of the coming 1-µs tick, 1 to 4, a modulator sample falls, if one does: one every 31.25 µs, none
in OFF (R28, R29). -/
def Modem.sampleAt (m : Modem) : Option Nat :=
  if m.modulator = .off || m.sampleClock + 4 < 125 then none else some (125 - m.sampleClock)

/-- Whether the modulator can take a character or a break: MARK_IDLE (R30, R31). -/
def State.markIdle (s : State) : Bool := s.modem.modulator = .markIdle

/-- Carrier on (R29, R47, R49): MARK_IDLE with the accumulator at 0 from OFF, and from a state whose carrier-off still
waits for its sample, which is taken with it (DEDUCED, assumption 42); in any other state nothing changes. DESIGN CHOICE
(assumption 35): the 32,000 samples per second are counted from the carrier-on, the first 31.25 µs after it. -/
def Modem.carrierOn (m : Modem) : Modem :=
  if m.modulator = .off || m.offDue then
    { m with modulator := .markIdle, offDue := false, phase := 0, sampleClock := 0 }
  else m

/-- Carrier off (R29, R32): requested in any state but OFF, and taken at the next modulator sample (`Modem.enterOff`),
which cuts an element under way, or with a carrier-on before it. -/
def Modem.carrierOff (m : Modem) : Modem := if m.modulator = .off then m else { m with offDue := true }

/-- A carrier-off request taken at a sample (R29, R32): OFF, the accumulator at 0. -/
def Modem.enterOff (m : Modem) : Modem := { m with modulator := .off, offDue := false, phase := 0, sampleClock := 0 }

/-- A character handed to the modulator (R30), kept by the scheduler as what it is. -/
def State.handCharacter (s : State) (b : Byte) (h : Handed) : State :=
  { s with modem.modulator := .character (frameOf s.settings b) 0, sched.handed := some h }

/-- The requested break handed to the modulator (R31, R104). -/
def State.handBreak (s : State) : State :=
  { s with modem.modulator := .breaking none, sched.breakRequest := .sending }

/-! ## Carrier status -/

/-- The carrier forced to ABSENT (R39): the timers stop, the level is mark, the sampler is suspended without a gap. -/
def Modem.forceAbsent (m : Modem) : Modem :=
  { m with
    carrier := .absent
    qualifyTimer := none
    silenceTimer := none
    requalifyTimer := none
    fadeTimer := none
    level := .mark
    sampler := Sampler.suspend }

/-- Entry to PRESENT (R37, R40): the silence timer starts at 20 ms, the sampler is in HUNT, the level is mark.
DESIGN CHOICE (assumption 45): the sample position is 0. -/
def Modem.enterPresent (m : Modem) : Modem :=
  { m with
    carrier := .present
    qualifyTimer := none
    silenceTimer := some (ms 20)
    requalifyTimer := none
    fadeTimer := none
    level := .mark
    sampler := ⟨.hunt, 0, [], 0⟩ }

/-- Whether a full period lies in the receive band's window (R33). -/
def inWindow (high : Bool) (p : Nat) : Bool := if high then 400 ≤ p && p ≤ 540 else 760 ≤ p && p ≤ 1120

/-- The threshold T of the receive band (R33). -/
def threshold (high : Bool) : Nat := if high then 468 else 934

/-- The classification of an in-window period, with a hysteresis of 8 (R34). -/
def classify (high : Bool) (l : Level) (p : Nat) : Level :=
  match l with
  | .mark => if threshold high + 8 ≤ p then .space else .mark
  | .space => if p < threshold high - 8 then .mark else .space

/-- The carrier status on a full period (R35 to R38); `idle` while the supervisor is IDLE. -/
def Modem.carrierPeriod (m : Modem) (inside idle : Bool) (qualify : Nat) : Modem :=
  match m.carrier with
  | .absent => if inside && !idle then { m with carrier := .qualifying, qualifyTimer := some qualify } else m
  | .qualifying => if inside then m else { m with carrier := .absent, qualifyTimer := none }
  | .present => if inside then { m with silenceTimer := some (ms 20) } else m
  | .fading =>
    if inside then
      if m.requalifyTimer.isNone then { m with requalifyTimer := some (ms 20) } else m
    else { m with requalifyTimer := none }

/-- A recorded half-period (R33): the full period goes to the classifier (R34) and to the carrier status. -/
def State.recordHalfPeriod (s : State) (h : Nat) : State :=
  let high := receiveHigh s.modem.mode
  let p := h + s.modem.hPrev
  let inside := inWindow high p
  let m := { s.modem with hPrev := h, crossing := 0 }
  let m := if inside && m.carrier = .present then { m with level := classify high m.level p } else m
  { s with modem := m.carrierPeriod inside (s.sup.state = .idle) (ms s.settings.qualifyTime) }

/-! ## Bit sampler -/

/-- The receive frame length F in samples (R43). -/
def frameLength (t : Settings) : Nat :=
  16 * (1 + t.dataBits + (if t.parity = .none then 0 else 1) + t.stopBits)

/-- The number of line bits between the start bit and the stop bit (R42). -/
def dataAndParity (t : Settings) : Nat := t.dataBits + (if t.parity = .none then 0 else 1)

/-- The position of the stop bit (R42). -/
def stopPosition (t : Settings) : Nat := 8 + 16 * (dataAndParity t + 1)

/-- A list of bits, least significant first, as a number. -/
def bitsToNat : List Bool → Nat
  | [] => 0
  | b :: bs => (if b then 1 else 0) + 2 * bitsToNat bs

/-- The byte assembled from the bits taken, bit 7 clear with 7 data bits (R42). -/
def assembledByte (t : Settings) (bits : List Bool) : Byte := byteOf (bitsToNat (bits.take t.dataBits))

/-- Whether the parity bit taken disagrees with the parity setting (R42); NONE gives no test. -/
def parityDisagrees (t : Settings) (bits : List Bool) : Bool :=
  match parityBit t.parity (bits.take t.dataBits), bits[t.dataBits]? with
  | some want, some got => want != got
  | _, _ => false

/-- The space run after a sample (R40). -/
def nextRun (run : Nat) (l : Level) : Nat := if l = .space then run + 1 else 0

/-- What a sample completes, for the parser. -/
inductive Sampled where
  | nothing
  | character (byte : Byte) (flawed : Bool)
  | breakSeen
  deriving DecidableEq, Repr

/-- The sampler in BREAK, with the run it has counted: the character under assembly is gone (R43), its position 0 (DESIGN
CHOICE, assumption 45). -/
def Sampler.enterBreak (run : Nat) : Sampler := ⟨.breaking, 0, [], run⟩

/-- One sample of the decided level (R40 to R43): the sampler after it, and what it hands to the parser. A space run
of 2F is a break in HUNT, START, DATA and WAIT_MARK alike. DESIGN CHOICE (assumption 45): a character that is over, by
a false start or at its stop bit, leaves the position at 0 and no bits. -/
def Sampler.sample (x : Sampler) (t : Settings) (l : Level) : Sampler × Sampled :=
  let run := nextRun x.spaceRun l
  let broken := decide (2 * frameLength t ≤ run)
  match x.state with
  | .suspended => (x, .nothing)
  | .breaking => if l = .mark then (⟨.hunt, 0, [], 0⟩, .nothing) else ({ x with spaceRun := run }, .nothing)
  | .hunt =>
    if broken then (Sampler.enterBreak run, .breakSeen)
    else if l = .space then (⟨.start, 1, [], run⟩, .nothing)
    else (⟨.hunt, 0, [], run⟩, .nothing)
  | .start =>
    if broken then (Sampler.enterBreak run, .breakSeen)
    else if x.position + 1 = 8 then
      if l = .space then (⟨.data, 8, [], run⟩, .nothing) else (⟨.hunt, 0, [], run⟩, .nothing)
    else (⟨.start, x.position + 1, [], run⟩, .nothing)
  | .data =>
    if broken then (Sampler.enterBreak run, .breakSeen)
    else if x.position + 1 = stopPosition t then
      (⟨if l = .mark then .hunt else .waitMark, 0, [], run⟩,
        .character (assembledByte t x.bits) (parityDisagrees t x.bits || decide (l = .space)))
    else if (x.position + 1 - 8) % 16 = 0 then
      (⟨.data, x.position + 1, x.bits ++ [decide (l = .mark)], run⟩, .nothing)
    else (⟨.data, x.position + 1, x.bits, run⟩, .nothing)
  | .waitMark =>
    if broken then (Sampler.enterBreak run, .breakSeen)
    else (⟨if l = .mark then .hunt else .waitMark, 0, [], run⟩, .nothing)

/-- Whether a character can be completed: the sampler takes samples and is not in BREAK (R40, R43). -/
def Sampler.receiving (x : Sampler) : Bool := x.state ≠ .suspended && x.state ≠ .breaking

end Sys2Proof.Machine
end

