-- ==== Sys2Proof/Machine/Fifo.lean ====
section
/-! DEFINITION. The receive direct FIFO and the local flow state (sections 4.2 and 4.6). -/

namespace Sys2Proof.Machine

open Sys2Proof

/-- Whether the supervisor lets text be sent: ONLINE or CLEARING (section 5.2). -/
def State.serving (s : State) : Bool := s.sup.state = .online || s.sup.state = .clearing

/-- The local flow state turned (R81): in ONLINE and CLEARING the matching control becomes the pending flow control,
replacing an older one. -/
def State.turnLocalFlow (s : State) (f : Flow) : State :=
  { s with
    parser.localFlow := f
    parser.pendingFlow := if s.serving then some f else s.parser.pendingFlow }

/-- A byte passed to the open text sink (R66, R77, R78): dropped and counted at DISCARD; dropped, counted and alerted
when the FIFO holds 256 entries; otherwise entered at the back, which at an occupancy of 192 turns the local flow
state to XOFF (R81). -/
def State.toSink (s : State) (b : Byte) (flawed : Bool) : State :=
  if s.settings.sink = .discard then
    { s with parser.counters.openDropped := bump s.parser.counters.openDropped }
  else if 256 ≤ s.parser.fifo.length then
    { s with parser.counters.fifoDrops := bump s.parser.counters.fifoDrops }.alertBoth .rxOverflow
  else
    let s' := { s with
      parser.fifo := s.parser.fifo ++ [⟨b, flawed⟩]
      parser.silence := ⟨some (seconds 3), false⟩ }
    if 192 ≤ s'.parser.fifo.length && s'.parser.localFlow = .xon then s'.turnLocalFlow .xoff else s'

/-- `n` entries leaving the front of the FIFO (R77): a departure to 64 or below turns the local flow state to XON
(R81), and lowers the LDS remainder of each pending print drain mark (R145); `byArbiter` when the print arbiter takes
them, which then owes a line to the marks it lowered. -/
def State.departFifo (s : State) (n : Nat) (byArbiter : Bool) : State :=
  if n = 0 then s
  else
    let s' := { s with parser.fifo := s.parser.fifo.drop n }
    let s' := if s'.parser.fifo.length ≤ 64 && s'.parser.localFlow = .xoff then s'.turnLocalFlow .xon else s'
    s'.changePrintMarks fun r =>
      { r with lds := r.lds - n, lineOwed := r.lineOwed || (byArbiter && decide (0 < r.lds)) }

/-- The FIFO emptied by a reset of the line side (R59, R77), which sets the LDS remainders to 0 (R145). -/
def State.emptyFifo (s : State) : State :=
  { s with parser.fifo := [], parser.silence := ⟨none, false⟩ }.changePrintMarks fun r => { r with lds := 0 }

end Sys2Proof.Machine
end

