-- ==== Sys2Proof/Machine/RowEngine.lean ====
section
/-! DEFINITION. The row engine (chapter 8): the dots of a row, the strobe arithmetic, the firing groups, the check
before a glyph row, the motor step, and the measurements of chapter 9 it is handed. -/

namespace Sys2Proof.Machine

open Sys2Proof

/-! ## Dots -/

/-- The dots of a glyph in a row, bit x for dot x from the left (R151): the space has none, the flaw glyph is a
checkerboard, the printable glyphs are fixed in the part (assumption 3). -/
def glyphRow (g : Glyph) (r : Nat) : BitVec 8 :=
  match g with
  | .flaw => if r % 2 = 0 then 0x55 else 0xAA
  | .code b => if b = 0x20 then 0 else Config.font b r

/-- The dots of a cell in a row: overstruck glyphs are the union of their dots (R151). -/
def cellRow (c : Cell) (r : Nat) : BitVec 8 :=
  match c with
  | .empty => 0
  | .one g => glyphRow g r
  | .two g h => glyphRow g r ||| glyphRow h r

/-- The dots of a list of cells, the first cell's in the lowest dots. -/
def cellsRow (l : List Cell) (r : Nat) : Dots :=
  l.foldr (fun c acc => acc <<< 8 ||| (cellRow c r).setWidth 640) 0

/-- The pattern of glyph row `r` of a text line (R151). -/
def lineRow (l : TextLine) (r : Nat) : Dots :=
  match l with
  | .blank => 0
  | .cells cs => cellsRow cs.toList r

/-- The number of black dots of block `b`, which holds dots 40b to 40b+39 (R156). -/
def blockCount (p : Dots) (b : Nat) : Nat := ((List.range 40).filter fun i => p.getLsbD (40 * b + i)).length

/-- The counts of the 16 blocks. -/
def blockCounts (p : Dots) : List Nat := (List.range 16).map (blockCount p)

/-- A strobe set with block `b` alone. -/
def strobeOf (b : Nat) : BitVec 16 := 1#16 <<< b

/-- The greedy scan of R156 from block `b` on, with the open group's strobes and total; a total of 0 where no group
is open. -/
def groupScan (nmax : Nat) : List Nat → Nat → BitVec 16 → Nat → List (BitVec 16)
  | [], _, strobes, total => if total = 0 then [] else [strobes]
  | c :: cs, b, strobes, total =>
    if c = 0 then groupScan nmax cs (b + 1) strobes total
    else if total = 0 then groupScan nmax cs (b + 1) (strobeOf b) c
    else if total + c ≤ nmax then groupScan nmax cs (b + 1) (strobes ||| strobeOf b) (total + c)
    else strobes :: groupScan nmax cs (b + 1) (strobeOf b) c

/-- The firing groups of a row (R156), in firing order, each as its strobes. -/
def firingGroups (p : Dots) (nmax : Nat) : List (BitVec 16) := groupScan nmax (blockCounts p) 0 0 0

/-! ## Strobe arithmetic -/

def clampNat (lo hi v : Nat) : Nat := if v < lo then lo else if hi < v then hi else v

def clampInt (lo hi v : Int) : Int := if v < lo then lo else if hi < v then hi else v

/-- Tb (R154): 900 − 8 × (Th − 25) with Th clamped to −10 to 70. -/
def strobeBase (th : Int) : Nat := (900 - 8 * (clampInt (-10) 70 th - 25)).toNat

/-- V clamped to 4200 to 8000 mV (R154). -/
def clampV (v : Nat) : Nat := clampNat 4200 8000 v

/-- Td (R154): the full strobe time in µs. -/
def strobeFull (v : Nat) (th : Int) (density : Nat) : Nat :=
  let tv := strobeBase th * 36000000 / (clampV v * clampV v)
  clampNat 250 3000 (tv * (48 + 2 * density) / 64)

/-- Ts (R154): the repeat strobe time in µs. -/
def strobeRepeat (td : Nat) : Nat := 3 * td / 4

/-- Nmax (R155). -/
def dotLimit (v : Nat) : Nat := clampNat 40 160 ((clampV v - 4000) / 12)

/-- The row period of a fired glyph row with `g` groups (R159). -/
def rowPeriod (td g : Nat) : Nat := max 2500 (if g = 0 then 0 else g * (td + 50) + 300)

/-- When group `k`, counted from 1, begins after the start of the row (R157). -/
def groupStart (td k : Nat) : Nat := (k - 1) * (td + 50)

/-! ## Firing and checking -/

/-- A row fired (R154 to R159): its times are computed, the last row record is written, P becomes its pattern, and
its first group begins with the full pattern latched. -/
def State.fireRow (s : State) : State :=
  let row := lineRow (s.engine.line.getD .blank) s.engine.step
  let fresh := row &&& ~~~s.engine.previous
  let td := strobeFull s.monitor.v s.monitor.th s.settings.density
  let ts := strobeRepeat td
  let nmax := dotLimit s.monitor.v
  let groups := firingGroups row nmax
  let period := rowPeriod td groups.length
  { s with
    engine.state := .row
    engine.previous := row
    engine.record := ⟨s.monitor.v, s.monitor.th, td, ts, nmax, groups.length, period⟩
    engine.firing := some ⟨row, fresh, td, ts, nmax, groups, 0, if groups.isEmpty then .done else .phase1⟩
    engine.latch := if groups.isEmpty then 0 else row
    engine.strobes := groups.headD 0
    engine.stepTimer := some period
    engine.groupTimer := if groups.isEmpty then none else some ts }

/-- The row held (R152): every strobe off, P, the step index and the motor unchanged. -/
def State.holdRow (s : State) : State :=
  { s with engine.state := .held, engine.firing := none, engine.strobes := 0, engine.stepTimer := none,
           engine.groupTimer := none }

/-- The check before a glyph row (R152): measurements awaited, entry of stall reasons with one PRINT_STALL, verdict. -/
def State.checkRow (s : State) : State :=
  if !s.engine.batteryJudged || !s.engine.headJudged then s.holdRow
  else
    let supplyNow := !s.engine.supply && decide (s.monitor.v < 4200)
    let heatNow := !s.engine.heat && decide (65 ≤ s.monitor.th)
    let s' := { s with
      engine.supply := s.engine.supply || supplyNow
      engine.heat := s.engine.heat || heatNow }
    let s' := if supplyNow || heatNow then s'.alertBoth .printStall else s'
    if s'.engine.supply || s'.engine.heat then s'.holdRow else s'.fireRow

/-- Whether the engine will take a line (R149): IDLE, PAPER and stop requested clear, RESETN not low (R164). -/
def State.engineTakes (s : State) : Bool :=
  s.engine.state = .idle && !s.engine.paper && !s.engine.stopRequested && s.power ≠ .held

/-- A line taken (R150): the step index is 0 and the first glyph row is checked. -/
def State.takeLine (s : State) (l : TextLine) : State :=
  { s with engine.line := some l, engine.step := 0 }.checkRow

/-- The motor step that ends a step (R159). -/
def Engine.motorStep (e : Engine) : Engine :=
  { e with phaseIndex := e.phaseIndex + 1, stepCounter := e.stepCounter + 1 }

/-- The engine in IDLE with no line: the firing over, every strobe released (R158, R160). -/
def Engine.enterIdle (e : Engine) : Engine :=
  { e with state := .idle, line := none, step := 0, firing := none, latch := 0, strobes := 0, stepTimer := none,
           groupTimer := none }

/-- The PAPER reason set at a line's end while paper-out is pending (R162, R164). -/
def State.paperStall (s : State) : State :=
  if s.engine.paperOutPending then
    { s with engine.paper := true, engine.paperOutPending := false }.alertBoth .paperOut
  else s

/-- A blank step begun (R159): 2500 µs, unchecked. -/
def State.beginBlank (s : State) : State :=
  { s with engine.state := .blank, engine.firing := none, engine.latch := 0, engine.strobes := 0,
           engine.stepTimer := some 2500, engine.groupTimer := none }

/-! ## Measurements -/

/-- SUPPLY_LOW judged at a battery measurement (R169). -/
def State.judgeSupply (s : State) : State :=
  if !s.monitor.supplyLow && decide (s.monitor.v < 4600) then
    { s with monitor.supplyLow := true }.alertBoth .supplyLow
  else if s.monitor.supplyLow && decide (4800 ≤ s.monitor.v) then
    { s with monitor.supplyLow := false }
  else s

/-- The value a battery measurement records (R167): a multiple of 10 mV, at most 9990. -/
def batteryReading (vbat : Nat) : Nat := if 9990 < vbat then 9990 else vbat / 10 * 10

/-- A battery measurement (R167): recorded, judged for SUPPLY_LOW, handed to the row engine, which clears its SUPPLY
reason or makes the battery judged, and checks a held row again (R153). -/
def State.measureBattery (s : State) (vbat : Nat) : State :=
  let s' := { s with
    monitor.v := batteryReading vbat
    monitor.batteryTaken := true
    monitor.batteryDue := false }.judgeSupply
  let cleared := s'.engine.supply && decide (4400 ≤ s'.monitor.v)
  let lastJudged := !s'.engine.batteryJudged && s'.engine.headJudged
  let s'' := { s' with
    engine.batteryJudged := true
    engine.supply := s'.engine.supply && !cleared }
  if s''.engine.state = .held && (cleared || lastJudged) then s''.checkRow else s''

/-- The value a head measurement records (R168), from thousandths of a °C: the nearest degree, a half rounded up,
within −20 to 90. -/
def headReading (thm : Int) : Int := clampInt (-20) 90 ((thm + 500) / 1000)

/-- A head measurement (R168): recorded and handed to the row engine, which clears its HEAT reason or makes the head
judged, and checks a held row again (R153). -/
def State.measureHead (s : State) (thm : Int) : State :=
  let s' := { s with monitor.th := headReading thm, monitor.headTaken := true }
  let cleared := s'.engine.heat && decide (s'.monitor.th ≤ 55)
  let lastJudged := !s'.engine.headJudged && s'.engine.batteryJudged
  let s'' := { s' with
    engine.headJudged := true
    engine.heat := s'.engine.heat && !cleared }
  if s''.engine.state = .held && (cleared || lastJudged) then s''.checkRow else s''

end Sys2Proof.Machine
end

