-- ==== Sys2Proof/Machine/Compose.lean ====
section
/-! DEFINITION. The line composer (section 7.6): placing bytes in the 80 cells, what ends a line, and the takes of a
live source. -/

namespace Sys2Proof.Machine

open Sys2Proof

/-- What the composer reads: a byte with its flaw mark, or the mark before a member of a RECORD copy, which begins on
a fresh line (R137). -/
inductive Token where
  | byte (byte : Byte) (flawed : Bool)
  | fresh
  deriving DecidableEq, Repr

/-- What ended a composition: a byte, a glyph that would fall at column 80, a fresh-line mark, or the content's end. -/
inductive Ending where
  | cr
  | lf
  | ff
  | tab
  | full
  | fresh
  | ranOut
  deriving DecidableEq, Repr

/-- A composed line: the buffer, how many tokens it used, and what ended it. -/
structure Composed where
  buffer : LineBuffer
  used : Nat
  ending : Ending
  deriving DecidableEq, Repr

/-- The glyph a byte places, if it is a glyph byte (R141). -/
def glyphOf (b : Byte) (flawed : Bool) : Option Glyph :=
  if flawed then some .flaw else if 0x20 ≤ b && b ≤ 0x7E then some (.code b) else none

/-- A glyph placed in a cell (R141). -/
def Cell.place (c : Cell) (g : Glyph) : Cell :=
  match c with
  | .empty => .one g
  | .one f => .two f g
  | .two f _ => .two f g

/-- A glyph placed at the column, which then rises by one (R141). At column 80 nothing is placed: the line ends
first. -/
def LineBuffer.place (l : LineBuffer) (g : Glyph) : LineBuffer :=
  if h : l.column < 80 then ⟨l.cells.set l.column (l.cells[l.column].place g), l.column + 1⟩ else l

/-- Whether a line has content: its column is above 0 or a cell holds a glyph (R142). -/
def LineBuffer.hasContent (l : LineBuffer) : Bool := 0 < l.column || l.cells.toList.any (· ≠ .empty)

/-- The text line a buffer is handed as: its cells, or a blank line when it has no content (R142). -/
def LineBuffer.textLine (l : LineBuffer) : TextLine := if l.hasContent then .cells l.cells else .blank

/-- The column a TAB moves to (R142). -/
def tabColumn (c : Nat) : Nat := (c / 8 + 1) * 8

/-- Composition from a token list (R141, R142), after `used` tokens already taken. -/
def composeFrom : List Token → LineBuffer → Nat → Composed
  | [], l, used => ⟨l, used, .ranOut⟩
  | .fresh :: ts, l, used => if l.hasContent then ⟨l, used + 1, .fresh⟩ else composeFrom ts l (used + 1)
  | .byte b flawed :: ts, l, used =>
    match glyphOf b flawed with
    | some g => if l.column < 80 then composeFrom ts (l.place g) (used + 1) else ⟨l, used, .full⟩
    | none =>
      if b = 0x0D then ⟨l, used + 1, .cr⟩
      else if b = 0x0A then ⟨l, used + 1, .lf⟩
      else if b = 0x0C then ⟨l, used + 1, .ff⟩
      else if b = 0x09 then
        if l.column < 72 then composeFrom ts { l with column := tabColumn l.column } (used + 1)
        else ⟨l, used + 1, .tab⟩
      else if b = 0x08 then composeFrom ts { l with column := l.column - 1 } (used + 1)
      else composeFrom ts l (used + 1)

/-- A line composed from the front of a token list. -/
def compose (ts : List Token) : Composed := composeFrom ts LineBuffer.empty 0

/-- An unflawed LF. -/
def isLf (t : Token) : Bool := t = .byte 0x0A false

/-- An unflawed CR. -/
def isCr (t : Token) : Bool := t = .byte 0x0D false

/-- How many tokens an LF that follows a CR immediately in a job's text takes with it (R142); the fresh-line marks of
members are no text, so any number of them may stand between, one for each empty member (assumption 17). -/
def followingLf : List Token → Nat
  | [] => 0
  | .byte b flawed :: _ => if isLf (.byte b flawed) then 1 else 0
  | .fresh :: ts => match followingLf ts with
    | 0 => 0
    | n + 1 => n + 2

/-- What a composition hands to the row engine: a text line with the blank lines that follow it, or nothing. -/
structure Handout where
  line : TextLine
  blanks : Nat
  deriving DecidableEq, Repr

/-- The lines of a composition (R142): an FF brings 4 blank lines behind its line, or by themselves; text that runs
out hands a line only when it has content. -/
def Composed.handout (c : Composed) : Option Handout :=
  match c.ending with
  | .ranOut => if c.buffer.hasContent then some ⟨c.buffer.textLine, 0⟩ else none
  | .ff => if c.buffer.hasContent then some ⟨c.buffer.textLine, 4⟩ else some ⟨.blank, 3⟩
  | _ => some ⟨c.buffer.textLine, 0⟩

/-- The next line of a job's text from a position: the composition, with an LF after a CR counted as used (R142). -/
def jobCompose (ts : List Token) (position : Nat) : Composed :=
  let c := compose (ts.drop position)
  if c.ending = .cr then { c with used := c.used + followingLf (ts.drop (position + c.used)) } else c

/-! ## Live sources -/

/-- How many bytes at the front of a live source are consumed without effect under its line-end state (R140). -/
def consumedByEnd (e : LineEnd) (ts : List Token) : Nat :=
  match e, ts with
  | .afterCr, t :: _ => if isLf t then 1 else 0
  | .afterFull, t :: u :: _ => if isCr t then (if isLf u then 2 else 1) else if isLf t then 1 else 0
  | .afterFull, [t] => if isCr t || isLf t then 1 else 0
  | _, _ => 0

/-- The composition of a live source's content under its line-end state (R132, R140). -/
def liveCompose (e : LineEnd) (ts : List Token) : Composed :=
  composeFrom (ts.drop (consumedByEnd e ts)) LineBuffer.empty (consumedByEnd e ts)

/-- Whether a live source has a ready line (R132). -/
def liveReady (e : LineEnd) (ts : List Token) (expired : Bool) : Bool :=
  let c := liveCompose e ts
  c.ending ≠ .ranOut || c.buffer.column = 80 || (!ts.isEmpty && expired)

/-- The line-end state after a take (R140). -/
def endAfter (c : Composed) : LineEnd :=
  match c.ending with
  | .cr => .afterCr
  | .full => .afterFull
  | .ranOut => if c.buffer.column = 80 then .afterFull else .normal
  | _ => .normal

end Sys2Proof.Machine
end

