-- ==== Sys2Proof/Machine/PrintArbiter.lean ====
section
/-! DEFINITION. The print arbiter (chapter 7): the live takes, the jobs, the selection point and the text-line
boundary. -/

namespace Sys2Proof.Machine

open Sys2Proof

/-! ## What is printed -/

/-- A slot's text as tokens without flaws. -/
def slotTokens (x : Slot) : List Token := x.content.map fun b => .byte b false

/-- A receive slot's record text as tokens, the positions of its flaw set flawed (R137). -/
def recordTokens (x : Slot) : List Token :=
  x.content.mapIdx fun i b => .byte b (x.flaws.getLsbD i)

/-- The text of a job, read from the slot store (R137). -/
def State.jobTokens (s : State) (j : Job) : List Token :=
  match j.kind with
  | .print => (s.members j.slot).flatMap fun i => slotTokens (s.slot i)
  | .copy =>
    if (s.slot j.slot).framing = .plain then (s.members j.slot).flatMap fun i => slotTokens (s.slot i)
    else (s.members j.slot).flatMap fun i => .fresh :: slotTokens (s.slot i)
  | .auto => recordTokens (s.slot j.slot)

/-- The content of a live source (R131): the FIFO is one only while open_text_sink is PRINT. -/
def State.liveTokens (s : State) : LiveSource → List Token
  | .lds => if s.settings.sink = .print then s.parser.fifo.map fun x => .byte x.byte x.flawed else []
  | .lcs => s.arb.copyBuffer.map fun b => .byte b false

def State.liveEnd (s : State) : LiveSource → LineEnd
  | .lds => s.arb.ldsEnd
  | .lcs => s.arb.lcsEnd

def State.liveExpired (s : State) : LiveSource → Bool
  | .lds => s.parser.silence.expired
  | .lcs => s.arb.silence.expired

/-- Whether a live source has a ready line (R132). -/
def State.sourceReady (s : State) (src : LiveSource) : Bool :=
  liveReady (s.liveEnd src) (s.liveTokens src) (s.liveExpired src)

/-- The live source a live line is taken from: LDS when it has a ready line, LCS otherwise (R133). -/
def State.readySource (s : State) : Option LiveSource :=
  if s.sourceReady .lds then some .lds else if s.sourceReady .lcs then some .lcs else none

/-- `n` bytes leaving the front of the local copy buffer (R131, R145). -/
def State.departCopy (s : State) (n : Nat) : State :=
  if n = 0 then s
  else
    { s with arb.copyBuffer := s.arb.copyBuffer.drop n }.changePrintMarks fun r =>
      { r with lcs := r.lcs - n, lineOwed := r.lineOwed || decide (0 < r.lcs) }

/-- A code offered to the local copy buffer that it takes (R131). -/
def State.enterCopy (s : State) (b : Byte) : State :=
  { s with arb.copyBuffer := s.arb.copyBuffer ++ [b], arb.silence := ⟨some (seconds 3), false⟩ }

/-! ## Handing lines -/

/-- A text line handed to the row engine (R143). -/
def State.handLine (s : State) (l : TextLine) : State := s.takeLine l

/-- The current live or feed unit completed: it owes no line any more (R145), and the unit ends. -/
def State.endLiveUnit (s : State) : State :=
  { s with arb.unit := .none, arb.buffer := LineBuffer.empty }.changePrintMarks fun r => { r with lineOwed := false }

/-- A live line taken from a source in one event (R140): its bytes leave, the line-end state is set, and its line is
handed; a take that composes to nothing ends the unit. -/
def State.takeLive (s : State) (src : LiveSource) : State :=
  let c := liveCompose (s.liveEnd src) (s.liveTokens src)
  let s := { s with arb.lastUnit := .live }
  let s := match src with
    | .lds => { s with arb.ldsEnd := endAfter c, arb.unit := .live .lds 0 }.departFifo c.used true
    | .lcs => { s with arb.lcsEnd := endAfter c, arb.unit := .live .lcs 0 }.departCopy c.used
  match c.handout with
  | none => s.endLiveUnit
  | some h => { s with arb.unit := .live src h.blanks, arb.buffer := c.buffer }.handLine h.line

/-- One feed request served (R144). -/
def State.serveFeed (s : State) : State :=
  ({ s with arb.feeds := s.arb.feeds - 1, arb.unit := .feed }.changePrintMarks fun r =>
      { r with feeds := r.feeds - 1, lineOwed := r.lineOwed || decide (0 < r.feeds) }).handLine .blank

/-! ## Jobs -/

/-- The current job ended: the unit is none and the withdrawal flag clear (R137 to R139). -/
def State.endJob (s : State) : State :=
  { s with arb.unit := .none, arb.withdrawalPending := false, arb.buffer := LineBuffer.empty }.testPrintMarks

/-- The auto-print job field of a slot set (R26). -/
def State.setAutoJob (s : State) (i : SlotId) (a : AutoJob) : State := s.setSlot i { s.slot i with job := a }

/-- A job completed (R137). -/
def State.completeJob (s : State) (j : Job) : State :=
  let s' := match j.kind with
    | .print => s.chainRequest j.slot .print [.active] .done (some .printed)
    | .copy => s.chainRequest j.slot .send [.copying] .done (some .sent)
    | .auto => s.setAutoJob j.slot .absent
  s'.endJob

/-- A job ended by its withdrawal (R138), or its copy cut (R139). -/
def State.cutJob (s : State) (j : Job) : State :=
  let s' := match j.kind with
    | .print => s.chainRequest j.slot .print [.active] .aborted (some .withdrawn)
    | .copy => s.chainRequest j.slot .send [.copying] .done (some .copyCut)
    | .auto => s.setAutoJob j.slot .absent
  s'.endJob

/-- The next line of the current job: the unit and the buffer after it, and what is handed; none when the job's text
composes to no further line (R137, R143). -/
def State.nextJobLine (s : State) (j : Job) (position blanks completed : Nat) : Option (PrintUnit × LineBuffer × TextLine) :=
  if 0 < blanks then some (.job j position (blanks - 1) completed, LineBuffer.empty, .blank)
  else
    let c := jobCompose (s.jobTokens j) position
    match c.handout with
    | none => none
    | some h => some (.job j (position + c.used) h.blanks completed, c.buffer, h.line)

/-- The print path's eligible jobs (R134): those of a port whose print-path mask is off. -/
def State.eligibleJobs (s : State) : List Job :=
  s.arb.queue.filter fun j =>
    (s.arb.masks.get j.owner).isNone
      && (j.kind ≠ .print || ((s.slot j.slot).state = .queued && (s.slot j.slot).chainHead = some j.slot))

/-- The job selected (R134). -/
def State.selectJob (s : State) : Option Job :=
  pickUnit (·.priority) (·.entry) (fun j => some j.owner) s.arb.lastJobPort s.eligibleJobs

/-- A job made the current unit (R134). -/
def State.beginJob (s : State) (j : Job) : State :=
  let s' := match j.kind with
    | .print => s.chainRequest j.slot .print [.queued] .active none
    | .copy => s
    | .auto => s.setAutoJob j.slot .printing
  { s' with
    arb.queue := s'.arb.queue.filter fun k => !(k.kind = j.kind && k.slot = j.slot)
    arb.unit := .job j 0 0 0
    arb.holdWait := none
    arb.withdrawalPending := false
    arb.lastUnit := .queue
    arb.lastJobPort := j.owner }

/-- The selected job started, or a print hold wait begun when a member of its chain is held (R134, R135). -/
def State.startJob (s : State) (j : Job) : State :=
  if j.kind = .print && s.chainHeld j.slot then
    { s with arb.holdWait := some ⟨j.slot, some (ms s.settings.holdTimeout)⟩ }
  else s.beginJob j

/-- The job of a chain in the print queue, by its head. -/
def State.queuedPrintJob (s : State) (h : SlotId) : Option Job :=
  s.arb.queue.find? fun j => j.kind = .print && j.slot = h

/-- Whether a live line is the choice of R133 step 3 between a ready live source and an eligible job. -/
def liveFirst (m : PrintMode) (last : UnitKind) : Bool :=
  match m with
  | .liveFirst => true
  | .alternate => last = .queue
  | .queueFirst => false

/-- The choice of R133 step 3 made. -/
def State.chooseUnit (s : State) : Option State :=
  match s.readySource, s.selectJob with
  | some src, none => some (s.takeLive src)
  | none, some j => some (s.startJob j)
  | some src, some j =>
    if liveFirst s.settings.printMode s.arb.lastUnit then some (s.takeLive src) else some (s.startJob j)
  | none, none => none

/-- One thing the arbiter does at a selection point or a text-line boundary, if there is one to do (R133, R135, R143).
-/
def State.printOnce (s : State) : Option State :=
  if !s.engineTakes then none
  else
    match s.arb.unit with
    | .none =>
      if 0 < s.arb.feeds then some s.serveFeed
      else
        match s.arb.holdWait with
        | some w =>
          if s.chainHeld w.head then
            if w.timer.isNone then
              some { s with arb.holdWait := some ⟨w.head, some (ms s.settings.holdTimeout)⟩ }
            else none
          else
            match s.queuedPrintJob w.head with
            | some j => some (s.beginJob j)
            | none => some { s with arb.holdWait := none }
        | none => s.chooseUnit
    | .feed => some s.endLiveUnit
    | .live src blanks =>
      if 0 < blanks then some ({ s with arb.unit := .live src (blanks - 1) }.handLine .blank) else some s.endLiveUnit
    | .job j position blanks completed =>
      if s.arb.withdrawalPending then some (s.cutJob j)
      else
        match s.nextJobLine j position blanks completed with
        | none => some (s.completeJob j)
        | some (u, buf, l) => some ({ s with arb.unit := u, arb.buffer := buf }.handLine l)

/-- The arbiter at work until it has handed a line, waits, or has nothing to choose. The fuel bounds the units it can
start in one event without handing a line. -/
def State.printLoop (s : State) : Nat → State
  | 0 => s
  | n + 1 =>
    match s.printOnce with
    | none => s
    | some s' => s'.printLoop n

/-- The print side served: the arbiter's selection point or text-line boundary (R133, R143). -/
def State.servePrint (s : State) : State := s.printLoop 100

/-- The row engine's report of a line complete, at the arbiter (R143): a feed or live unit ends with its last line; a
job's completed lines rise, stopping at 255, and a pending withdrawal or the job's end takes effect at once. -/
def State.lineComplete (s : State) : State :=
  match s.arb.unit with
  | .none => s
  | .feed => s.endLiveUnit
  | .live _ blanks => if 0 < blanks then s else s.endLiveUnit
  | .job j position blanks completed =>
    let s' := { s with arb.unit := .job j position blanks (min 255 (completed + 1)) }
    if s'.arb.withdrawalPending then s'.cutJob j
    else
      match s'.nextJobLine j position blanks (min 255 (completed + 1)) with
      | none => s'.completeJob j
      | some _ => s'

end Sys2Proof.Machine
end

