-- ==== Sys2Proof/Machine/Scheduler.lean ====
section
/-! DEFINITION. The supervisor's common effects (chapter 3) and the transmit scheduler (chapter 5): character and turn
boundaries, turns, hold waits, records and reply waits, the clearing set and its end. -/

namespace Sys2Proof.Machine

open Sys2Proof

/-! ## The supervisor's changes of state -/

/-- A change of the supervisor's state announced: the reason, a LINE event at each port (R61), and the beeper for
ONLINE and LOST (R172). -/
def State.lineEvent (s : State) (r : LineReason) : State :=
  let s' := { s with sup.reason := r }.raiseBoth (.line s.sup.state r)
  if r = .online || r = .lost then s'.beep else s'

/-- Whether the parser is assembling a record: ROUTE, CLASS, BODY or CHECK (R71). -/
def ParserState.assembling : ParserState → Bool
  | .text => false
  | .discard _ => false
  | _ => true

/-- The effects common to every entry to IDLE (R48), up to the LINE event of its cause. -/
def State.enterIdle (s : State) : State :=
  { s with
    modem := s.modem.carrierOff.forceAbsent
    sup.state := .idle
    sup.connectTimer := none
    sup.clearingTimer := none
    sup.clearing := none
    sched.turn := .none
    sched.holdWait := none
    sched.replyTimer := none
    sched.withdrawalPending := false
    sched.answerbackPending := false
    sched.breakRequest := .none
    sched.remoteFlow := .xon
    sched.flowTimer := none
    sched.handed := none
    parser.state := .text
    parser.replies := []
    parser.pendingFlow := none
    parser.counters.discarded :=
      if s.parser.state.assembling then bump s.parser.counters.discarded else s.parser.counters.discarded
  }.testLineMarks

/-- Entry to IDLE with its LINE event. -/
def State.goIdle (s : State) (r : LineReason) : State := s.enterIdle.lineEvent r

/-- The chain that is ACTIVE on the line: the chain turn, suspended or not. -/
def State.activeChain (s : State) : Option ChainTurn :=
  match s.sched.turn with
  | .chain ct => some ct
  | .answerback _ suspended => suspended
  | _ => none

/-- The ACTIVE chain failed by a cause that ends the connection (R53, R57, R58, R59); a pending withdrawal is asked
for instead (R101). -/
def State.failActive (s : State) (o : EndOutcome) : State :=
  match s.activeChain with
  | none => s
  | some ct =>
    if s.sched.withdrawalPending then s.chainRequest ct.head .send [.active] .aborted (some .withdrawn)
    else s.chainRequest ct.head .send [.active] .failed (some o)

/-! ## The clearing set -/

/-- A chain leaving the clearing set (R55). -/
def State.clearingDropChain (s : State) (h : SlotId) : State :=
  { s with sup.clearing := s.sup.clearing.map fun c => { c with chains := c.chains.filter (· ≠ h) } }

/-- A character leaving the clearing set (R55). -/
def State.clearingDropChar (s : State) (e : Nat) : State :=
  { s with sup.clearing := s.sup.clearing.map fun c => { c with chars := c.chars.filter (· ≠ e) } }

/-- Whether the clearing set holds nothing. -/
def State.clearingEmpty (s : State) : Bool :=
  match s.sup.clearing with
  | none => true
  | some c => c.chains.isEmpty && c.chars.isEmpty

/-- Whether clearing ends (R56): the set empty, no turn under way, the modulator in MARK_IDLE. -/
def State.clearingDone (s : State) : Bool :=
  s.sup.state = .clearing && s.clearingEmpty && s.sched.turn = .none && s.markIdle

/-- Whether a chain may be served in the supervisor's state: in CLEARING, members of the clearing set alone (R89). -/
def State.chainMember (s : State) (h : SlotId) : Bool :=
  s.sup.state ≠ .clearing || match s.sup.clearing with
    | none => false
    | some c => c.chains.contains h

/-- Whether a key-to-line character may be served: in CLEARING, members of the clearing set alone (R91). -/
def State.charMember (s : State) (c : KeyChar) : Bool :=
  s.sup.state ≠ .clearing || match s.sup.clearing with
    | none => false
    | some set => set.chars.contains c.entry

/-! ## What is sent -/

/-- A byte as it is judged before it is sent: its low 7 bits with data_bits 7, its full value otherwise (R90, R95,
R96). -/
def lineByte (t : Settings) (b : Byte) : Byte := if t.dataBits = 7 then b &&& 0x7F else b

/-- The bytes a PLAIN chain sends (R95). -/
def plainSent (b : Byte) : Bool :=
  0x20 ≤ b || b = 0x09 || b = 0x0D || b = 0x0A || b = 0x0C || b = 0x08

/-- The bytes a record sends (R96). -/
def recordSent (b : Byte) : Bool := (0x20 ≤ b && b ≤ 0x7E) || b = 0x09

/-- The bytes an answerback sends (R90). -/
def answerbackSent (b : Byte) : Bool := (0x20 ≤ b && b ≤ 0x7E) || b = 0x0D || b = 0x0A

/-- The bytes of a text that one of these tests keeps, in order, as they are transmitted. -/
def keptBytes (t : Settings) (keep : Byte → Bool) (text : List Byte) : List Byte := (text.map (lineByte t)).filter keep

/-- The check of a record (R72): the exclusive OR of its bytes, raised by 0x20 when below 0x20. -/
def checkOf (x : Byte) : Byte := if x < 0x20 then x + 0x20 else x

/-- The exclusive OR of a list of bytes. -/
def xorBytes (l : List Byte) : Byte := l.foldl (· ^^^ ·) 0

/-- The characters of a member's record, from SOH to the check byte (R96). -/
def recordCharacters (t : Settings) (x : Slot) : List Byte :=
  let body := x.route :: classByte x.cls :: keptBytes t recordSent x.content
  0x01 :: (body ++ [0x03, checkOf (xorBytes body)])

/-- The bytes a PLAIN chain sends, its members in chain order without separator (R95). -/
def State.plainBytes (s : State) (h : SlotId) : List Byte :=
  (s.members h).flatMap fun i => keptBytes s.settings plainSent (s.slot i).content

/-- The bytes of the answerback (R90), from slot 0's text. -/
def State.answerbackBytes (s : State) : List Byte := keptBytes s.settings answerbackSent (s.slot 0).content

def flowByte : Flow → Byte
  | .xon => 0x11
  | .xoff => 0x13

def replyByte : Reply → Byte
  | .ack => 0x06
  | .nak => 0x15

/-! ## The end of a chain turn -/

/-- The chain turn over: the current turn is NONE, the withdrawal flag clear, the reply timer stopped. -/
def State.endTurn (s : State) : State :=
  { s with sched.turn := .none, sched.withdrawalPending := false, sched.replyTimer := none }

/-- A chain gone from the line path: out of the clearing set (R55), the line drain marks tested (R108). -/
def State.leaveLine (s : State) (h : SlotId) : State := (s.clearingDropChain h).testLineMarks

/-- A completed chain (R99): DONE with outcome SENT, or COPYING with a copy job in the print queue. -/
def State.completeChain (s : State) (h : SlotId) : State :=
  let s' := s.endTurn
  let s'' :=
    if (s.slot h).copy then
      if s'.requestFinds h .send [.active] then
        (s'.chainRequest h .send [.active] .copying none).enterPrintQueue .copy h
      else s'
    else s'.chainRequest h .send [.active] .done (some .sent)
  s''.leaveLine h

/-- The ACTIVE chain withdrawn (R101). -/
def State.withdrawActive (s : State) (h : SlotId) : State :=
  (s.endTurn.chainRequest h .send [.active] .aborted (some .withdrawn)).leaveLine h

/-- The ACTIVE chain failed at the end of a reply wait (R98). -/
def State.failReply (s : State) (h : SlotId) (o : EndOutcome) : State :=
  (s.endTurn.chainRequest h .send [.active] .failed (some o)).leaveLine h

/-- A record accepted (R96, R98): the next member's record follows, or the chain is complete. -/
def State.acceptRecord (s : State) (ct : ChainTurn) : State :=
  match (s.slot ct.member).successor with
  | some m => { s with sched.turn := .chain { ct with member := m, phase := .between false }, sched.replyTimer := none }
  | none => s.completeChain ct.head

/-! ## Beginning turns -/

/-- The hold timer's running value (R92, R94). -/
def State.holdTime (s : State) : Timer := some (ms s.settings.holdTimeout)

/-- An answerback turn begun (R90): the flag clears and a copy of slot 0's kept bytes is taken. -/
def State.beginAnswerback (s : State) (suspended : Option ChainTurn) : State :=
  { s with sched.answerbackPending := false, sched.turn := .answerback s.answerbackBytes suspended,
           sched.holdWait := none }

/-- An answerback turn chosen (R90, R94): it waits on slot 0's hold, or begins. DEDUCED (assumption 13): while it waits
between the records of a chain the current turn stays the chain turn, so READ STATUS reports CHAIN with its head; it is
ANSWERBACK from its beginning to its last byte. -/
def State.chooseAnswerback (s : State) (suspended : Option ChainTurn) : State :=
  if (s.slot 0).hold then { s with sched.holdWait := some ⟨.answerback, s.holdTime⟩ }
  else s.beginAnswerback suspended

/-- The turn that follows an answerback: the suspended chain turn, or none. -/
def State.resumeTurn (s : State) (suspended : Option ChainTurn) : State :=
  { s with sched.turn := match suspended with
      | none => .none
      | some ct => .chain ct }

/-- K, the characters a key turn would send (R91): all of the FIFO, or in CLEARING the members at its front. -/
def State.keysReady (s : State) : Nat := (s.sched.keyFifo.takeWhile s.charMember).length

/-- The eligible send chains (R89). -/
def State.eligibleChains (s : State) : List QueuedChain :=
  s.sched.sendQueue.filter fun q =>
    (s.slot q.head).state = .queued && (s.slot q.head).chainHead = some q.head
      && (match (s.slot q.head).owner with
          | none => false
          | some p => (s.sched.masks.get p).isNone)
      && s.chainMember q.head

/-- The chain selected (R89). -/
def State.selectChain (s : State) : Option QueuedChain :=
  pickUnit (fun q => (s.slot q.head).priority) (·.entry) (fun q => (s.slot q.head).owner) s.sched.lastChainPort
    s.eligibleChains

/-- A chain's turn begun (R89, R95): ACTIVE and out of the send queue; a PLAIN chain with no byte to send is complete
at once. -/
def State.beginChain (s : State) (q : QueuedChain) : State :=
  let plain := (s.slot q.head).framing = .plain
  let s' := s.chainRequest q.head .send [.queued] .active none
  let s'' := { s' with
    sched.sendQueue := s'.sched.sendQueue.filter fun r => r.head ≠ q.head
    sched.turn := .chain ⟨q.head, q.entry, q.head, if plain then .plain 0 else .between true⟩
    sched.holdWait := none
    sched.withdrawalPending := false
    sched.lastTurn := .chain
    sched.lastChainPort := ((s.slot q.head).owner).getD s.sched.lastChainPort }
  if plain && (s''.plainBytes q.head).isEmpty then s''.completeChain q.head else s''

/-- The selected chain asked to start (R89): it begins its turn, or a hold wait begins when a member is held (R92). -/
def State.startChain (s : State) (q : QueuedChain) : State :=
  if s.chainHeld q.head then { s with sched.holdWait := some ⟨.chain q.head, s.holdTime⟩ } else s.beginChain q

/-- A key turn begun (R88, R91). -/
def State.beginKeys (s : State) : State := { s with sched.turn := .key s.keysReady, sched.lastTurn := .key }

/-- Whether the key turn is the choice between a key turn and a chain turn (R88). -/
def keysFirst (m : TurnMode) (last : TurnKind) : Bool :=
  match m with
  | .keysFirst => true
  | .alternate => last = .chain
  | .queueFirst => false

/-- The choice at a turn boundary (R87, R88). A remote XOFF leaves the answerback alone to choose (R86 step 4,
assumption 10). -/
def State.chooseTurn (s : State) : Option State :=
  if s.sched.answerbackPending then some (s.chooseAnswerback none)
  else if s.sched.remoteFlow = .xoff then none
  else
    match s.keysReady, s.selectChain with
    | 0, none => none
    | 0, some q => some (s.startChain q)
    | _, none => some s.beginKeys
    | _, some q => if keysFirst s.settings.turnMode s.sched.lastTurn then some s.beginKeys else some (s.startChain q)

/-! ## The character boundary -/

/-- Whether a record is in progress (R86): from its SOH handed to its check byte or CAN complete. -/
def State.recordInProgress (s : State) : Bool :=
  match s.sched.turn with
  | .chain ct =>
    match ct.phase with
    | .record _ => true
    | _ => false
  | _ => false

/-- What one step of the boundary did: nothing is to be done, a character or break was handed, or a turn began or
ended without one. -/
inductive LineStep where
  | wait
  | handed (s : State)
  | again (s : State)

/-- Whether text may be handed now: the modulator in MARK_IDLE and the remote flow state XON (R86). -/
def State.textReady (s : State) : Bool := s.markIdle && s.sched.remoteFlow = .xon

/-- An attempt counted at a record's SOH: the member's attempts used, and the head's taking the same value (R96). -/
def State.countAttempt (s : State) (ct : ChainTurn) : State :=
  let n := (s.slot ct.member).attempts + 1
  let s' := s.setSlot ct.member { s.slot ct.member with attempts := n }
  s'.setSlot ct.head { s'.slot ct.head with attempts := n }

/-- The next character of a chain turn (R95, R96), or an answerback set between its records (R87). -/
def State.chainStep (s : State) (ct : ChainTurn) : LineStep :=
  match ct.phase with
  | .plain n =>
    if s.textReady then
      match (s.plainBytes ct.head)[n]? with
      | some b => .handed ({ s with sched.turn := .chain { ct with phase := .plain (n + 1) } }.handCharacter b .plain)
      | none => .again (s.completeChain ct.head)
    else .wait
  | .between first =>
    if !s.markIdle then .wait
    else if s.sched.answerbackPending && !first then .again (s.chooseAnswerback (some ct))
    else if s.sched.remoteFlow = .xon then
      .handed (({ s with sched.turn := .chain { ct with phase := .record 1 } }.countAttempt ct).handCharacter 0x01 .record)
    else .wait
  | .record n =>
    if s.textReady then
      let chars := recordCharacters s.settings (s.slot ct.member)
      match chars[n]? with
      | some b =>
        .handed ({ s with sched.turn := .chain { ct with phase := .record (n + 1) } }.handCharacter b
          (if n + 1 = chars.length then .check else .record))
      | none => .wait
    else .wait
  | .reply => .wait

/-- A pending withdrawal at a boundary (R101): CAN in place of the next character of a record in progress before its
check byte, otherwise the request in place of the next character. -/
def State.withdrawalStep (s : State) (ct : ChainTurn) : LineStep :=
  match ct.phase with
  | .record n =>
    if n < (recordCharacters s.settings (s.slot ct.member)).length && s.textReady then
      .handed (s.handCharacter 0x18 .can)
    else .wait
  | _ => if s.markIdle then .again (s.withdrawActive ct.head) else .wait

/-- The next character of the turn under way, or the turn boundary where none is (R86 steps 4 to 6). `reached` when
the turn boundary is reached without a character boundary (R87). -/
def State.turnStep (s : State) (reached : Bool) : LineStep :=
  match s.sched.turn with
  | .none =>
    if s.sched.holdWait.isSome || !(s.markIdle || reached) then .wait
    else
      match s.chooseTurn with
      | none => .wait
      | some s' => .again s'
  | .answerback [] suspended =>
    if s.sched.handed = some .answerback then .wait else .again (s.resumeTurn suspended)
  | .answerback (b :: bs) suspended =>
    if s.markIdle then .handed ({ s with sched.turn := .answerback bs suspended }.handCharacter b .answerback) else .wait
  | .key n =>
    if !s.textReady then .wait
    else
      match n, s.sched.keyFifo with
      | n + 1, c :: cs =>
        .handed ({ s with sched.keyFifo := cs, sched.turn := .key n }.handCharacter c.code (.key c.entry))
      | _, _ => .again s.endTurn
  | .chain ct =>
    if s.sched.holdWait.isSome then .wait
    else if s.sched.withdrawalPending then s.withdrawalStep ct
    else s.chainStep ct

/-- One step of a character boundary (R86), with the end of clearing before it (R56). -/
def State.lineOnce (s : State) (reached : Bool) : LineStep :=
  if !s.serving then .wait
  else if s.clearingDone then .again (s.goIdle .cleared)
  else if s.markIdle && s.sched.breakRequest = .requested && !s.recordInProgress then .handed s.handBreak
  else if s.markIdle then
    match s.parser.pendingFlow, s.parser.replies with
    | some f, _ => .handed ({ s with parser.pendingFlow := none }.handCharacter (flowByte f) .flow)
    | none, r :: rs => .handed ({ s with parser.replies := rs }.handCharacter (replyByte r) .reply)
    | none, [] => s.turnStep reached
  else s.turnStep reached

/-- The scheduler at work until it has handed a character or waits. At a turn boundary reached by itself the next turn
is chosen even when a break, a flow control or a reply is handed there first (R87, assumption 12). The fuel bounds the
turns that begin and end in one event without a character. -/
def State.lineLoop (s : State) (reached : Bool) : Nat → State
  | 0 => s
  | n + 1 =>
    match s.lineOnce reached with
    | .wait => s
    | .handed s' => if reached then s'.lineLoop true n else s'
    | .again s' => s'.lineLoop true n

/-- The line side served at a character boundary (R86); nothing where the scheduler does not work. -/
def State.serveLine (s : State) : State := s.lineLoop false 100

/-- The line side served at a turn boundary that an end of a turn or of a hold wait reaches by itself (R87). -/
def State.serveTurn (s : State) : State := s.lineLoop true 100

/-- The line side and the print side served, whatever a step changed: a chain that turns COPYING gives the arbiter a
job (R133), and bytes the arbiter takes can give the scheduler a pending flow control (R81). -/
def State.settle (s : State) : State := s.serveLine.servePrint.serveLine

/-- `settle` from a turn boundary. -/
def State.settleTurn (s : State) : State := s.serveTurn.servePrint.serveLine

/-- Whether a chain turn is under way and not suspended. -/
def Turn.isChain : Turn → Bool
  | .chain _ => true
  | _ => false

/-- Whether an event has ended the chain turn or the hold wait that was under way before it, and so reached a turn
boundary by itself (R87, R99). A key turn and an answerback turn end at a character boundary, which is their turn
boundary. -/
def State.turnFreed (before s : State) : Bool :=
  (before.sched.turn.isChain || before.sched.holdWait.isSome) && s.sched.turn = .none && s.sched.holdWait.isNone

/-- Both sides served after an event that took `before` to `s`: at the turn boundary it reached, or at the character
boundary that what it changed may be. -/
def State.settleAfter (before s : State) : State := if State.turnFreed before s then s.settleTurn else s.settle

/-! ## Reports of the modulator and of the remote -/

/-- The modulator's report of a character complete (R30), at the scheduler, before the boundary it makes. -/
def State.characterDone (s : State) : State :=
  let s' := { s with modem.modulator := .markIdle, sched.handed := none }
  match s.sched.handed, s.sched.turn with
  | some (.key e), turn =>
    ({ s' with sched.turn := if turn = Turn.key 0 then Turn.none else turn }.clearingDropChar e).testLineMarks
  | some .answerback, .answerback [] suspended => s'.resumeTurn suspended
  | some .plain, .chain ct =>
    match ct.phase with
    | .plain n =>
      if n = (s'.plainBytes ct.head).length && !s'.sched.withdrawalPending then s'.completeChain ct.head else s'
    | _ => s'
  | some .check, .chain ct =>
    if s'.sched.withdrawalPending then { s' with sched.turn := .chain { ct with phase := .between false } }
    else if (s'.slot ct.member).cls = .n then s'.acceptRecord ct
    else
      { s' with
        sched.turn := .chain { ct with phase := .reply }
        sched.replyTimer := some (seconds s'.settings.replyTimeout) }
  | some .can, .chain ct => s'.withdrawActive ct.head
  | _, _ => s'

/-- The chain turn in a reply wait, if there is one (R97). -/
def State.replyWait (s : State) : Option ChainTurn :=
  match s.sched.turn with
  | .chain ct => if ct.phase = .reply then some ct else none
  | _ => none

/-- A reply wait ended without acceptance (R98): the record is sent again, or the chain fails with the outcome. -/
def State.retryRecord (s : State) (ct : ChainTurn) (o : EndOutcome) : State :=
  if (s.slot ct.member).attempts < s.settings.attemptLimit then
    { s with sched.turn := .chain { ct with phase := .between false }, sched.replyTimer := none }
  else s.failReply ct.head o

/-- An ACK or NAK at the scheduler (R65, R98): stray without a reply wait. -/
def State.takeReply (s : State) (r : Reply) : State :=
  match s.replyWait with
  | none => { s with parser.counters.stray := bump s.parser.counters.stray }
  | some ct =>
    match r with
    | .ack => s.acceptRecord ct
    | .nak => s.retryRecord ct .refused

/-- A hold wait on a chain ended, the timer stopped (R87, R92). -/
def State.endChainWait (s : State) : State :=
  match s.sched.holdWait with
  | some ⟨.chain _, _⟩ => { s with sched.holdWait := none }
  | _ => s

/-- An ENQ at the scheduler (R65, R87): the flag sets, and a hold wait on a chain ends; ignored when already set. -/
def State.takeEnq (s : State) : State :=
  if s.sched.answerbackPending then s else { s with sched.answerbackPending := true }.endChainWait

/-- XOFF and XON at the scheduler (R102). -/
def State.takeFlow (s : State) (f : Flow) : State :=
  if s.sched.remoteFlow = f then s
  else
    { s with
      sched.remoteFlow := f
      sched.flowTimer :=
        if f = .xoff && s.settings.flowLimit ≠ 0 then some (seconds s.settings.flowLimit) else none }

/-- A break requested (R104), merged with one already requested or sending. -/
def State.requestBreak (s : State) : State :=
  if s.sched.breakRequest = .none then { s with sched.breakRequest := .requested } else s

end Sys2Proof.Machine
end

