-- ==== Sys2Proof/Machine/ReceiveParser.lean ====
section
/-! DEFINITION. The receive parser (chapter 4): open text, in-line controls, record assembly, the check and the
verdict, filing, and the reply queue. -/

namespace Sys2Proof.Machine

open Sys2Proof

/-! ## Counters and replies -/

/-- A change of the line counters (R82). -/
def State.count (s : State) (f : Counters → Counters) : State := { s with parser.counters := f s.parser.counters }

/-- A reply queued, or dropped when the queue holds 4 (R74). -/
def State.queueReply (s : State) (r : Reply) : State :=
  if s.parser.replies.length < 4 then { s with parser.replies := s.parser.replies ++ [r] } else s

/-- A record abandoned (R71): counted, the buffer cleared, the parser in the state given. -/
def State.abandon (s : State) (next : ParserState) : State :=
  { s with parser.state := next, parser.counters.discarded := bump s.parser.counters.discarded }

/-! ## Filing -/

/-- A record offered for filing (R73). -/
structure Offered where
  route : Byte
  cls : RecordClass
  bad : Bool
  text : List RxByte
  deriving DecidableEq, Repr

/-- Whether a receive slot matches a record's route (R75). -/
def Slot.matches (x : Slot) (route : Byte) : Bool :=
  x.kind = some .receive && (x.state = .armed || x.state = .pending) && (x.route = route || x.route = routeAny)

/-- Whether a record of a PENDING slot may be replaced (R75). -/
def Slot.replaceable (x : Slot) : Bool := x.state = .pending && !x.protect && x.job = .absent

/-- Where a record goes (R75, R76). -/
inductive Filing where
  | armed (slot : SlotId)
  | replace (slot : SlotId)
  | dropped (slot : SlotId)
  | unrouted
  deriving DecidableEq, Repr

/-- The search of R75, with the lowest-numbered matching slot of R76 where no slot takes the record. -/
def State.fileSearch (s : State) (route : Byte) : Filing :=
  match s.slotsWhere fun _ x => x.matches route && x.state = .armed with
  | i :: _ => .armed i
  | [] =>
    match s.slotsWhere fun _ x => x.matches route && x.replaceable with
    | i :: _ => .replace i
    | [] =>
      match s.slotsWhere fun _ x => x.matches route with
      | i :: _ => .dropped i
      | [] => .unrouted

/-- The text area after a record's text has been written from position 0 (R26). DESIGN CHOICE (assumption 41): R26 gives
the bytes of the record alone; behind its length the area keeps the bytes it held. -/
def filedText (old : Vector Byte 80) (text : List RxByte) : Vector Byte 80 :=
  Vector.ofFn fun i => match text[i.val]? with
    | some x => x.byte
    | none => old[i]

/-- The positions of the flawed bytes of a text (R26). -/
def flawSet (text : List RxByte) : BitVec 80 :=
  (List.range 80).foldl (fun acc i => match text[i]? with
    | some x => if x.flawed then acc ||| (1#80 <<< i) else acc
    | none => acc) 0

/-- A record written into a slot (R26). -/
def State.fileInto (s : State) (i : SlotId) (r : Offered) (overwritten : Bool) : State :=
  let x := s.slot i
  let s' := s.setSlot i { x with
    state := .pending
    text := filedText x.text r.text
    length := r.text.length
    flaws := flawSet r.text
    record := some ⟨r.route, r.cls, r.bad, overwritten⟩
    job := if x.autoprint then .waiting else x.job }
  let s' := if x.autoprint then s'.enterPrintQueue .auto i else s'
  let s' := s'.count fun c => { c with filed := bump c.filed }
  match x.owner with
  | none => s'
  | some p => s'.raise p (if overwritten then .lost .overwritten i r.route else .received i r.route)

/-- A record offered for filing (R75, R76): the state after it, and whether it was filed. -/
def State.file (s : State) (r : Offered) : State × Bool :=
  match s.fileSearch r.route with
  | .armed i => (s.fileInto i r false, true)
  | .replace i => (s.fileInto i r true, true)
  | .dropped i =>
    let s' := s.count fun c => { c with lost := bump c.lost }
    match (s.slot i).owner with
    | none => (s', false)
    | some p => (s'.raise p (.lost .dropped i r.route), false)
  | .unrouted => (s.count fun c => { c with unrouted := bump c.unrouted }, false)

/-! ## The verdict -/

/-- Whether a record's check byte makes its check GOOD (R72): the low 7 bits of the byte against the computed
check (assumption 22). -/
def checkGood (running byte : Byte) (flawed : Bool) : Bool := !flawed && byte &&& 0x7F = checkOf running

/-- The verdict on a record (R73), the parser in TEXT after it. -/
def State.verdict (s : State) (route : Byte) (cls : RecordClass) (text : List RxByte) (running byte : Byte)
    (flawed : Bool) : State :=
  let s' := { s with parser.state := .text }
  let good := checkGood running byte flawed
  match cls with
  | .n => (s'.file ⟨route, .n, !good, text⟩).1
  | .c =>
    if good && !text.any (·.flawed) then
      let filed := s'.file ⟨route, .c, false, text⟩
      filed.1.queueReply (if filed.2 then .ack else .nak)
    else
      (s'.count fun c => { c with discarded := bump c.discarded }).queueReply .nak

/-! ## Characters -/

/-- The in-line controls (R64). -/
inductive InLine where
  | flow (f : Flow)
  | reply (r : Reply)
  | enq
  deriving DecidableEq, Repr

/-- The in-line control a character is, if it is one; a flawed character is none (R64). -/
def inLine (b : Byte) (flawed : Bool) : Option InLine :=
  if flawed then none
  else if b = 0x11 then some (.flow .xon)
  else if b = 0x13 then some (.flow .xoff)
  else if b = 0x06 then some (.reply .ack)
  else if b = 0x15 then some (.reply .nak)
  else if b = 0x05 then some .enq
  else none

/-- An in-line control acted on (R65). -/
def State.takeInLine (s : State) (c : InLine) : State :=
  match c with
  | .flow f => s.takeFlow f
  | .reply r => s.takeReply r
  | .enq => s.takeEnq

/-- The open text bytes of R66. -/
def openText (b : Byte) : Bool :=
  (0x20 ≤ b && b ≤ 0x7E) || b = 0x09 || b = 0x08 || b = 0x0A || b = 0x0C || b = 0x0D

/-- The text bytes of a record (R68). -/
def recordText (b : Byte) (flawed : Bool) : Bool := flawed || (0x20 ≤ b && b ≤ 0x7E) || b = 0x09

/-- A character that is no in-line control, in the parser's state (R66 to R69, R73). -/
def State.takeData (s : State) (b : Byte) (flawed : Bool) : State :=
  match s.parser.state with
  | .text =>
    if flawed then s.toSink b true
    else if b = 0x01 then { s with parser.state := .route }
    else if b = 0x07 then s.beep
    else if openText b then s.toSink b false
    else s
  | .route =>
    if !flawed && isRouteCode (b &&& 0x7F) then { s with parser.state := .cls (b &&& 0x7F) } else s.abandon .text
  | .cls route =>
    match classArg b with
    | some k => if flawed then s.abandon .text else { s with parser.state := .body route k [] (route ^^^ b) }
    | none => s.abandon .text
  | .body route k text running =>
    if recordText b flawed then
      if text.length < 80 then { s with parser.state := .body route k (text ++ [⟨b, flawed⟩]) (running ^^^ b) }
      else s.abandon (.discard false)
    else if b = 0x03 then { s with parser.state := .check route k text running }
    else if b = 0x01 then s.abandon .route
    else if b = 0x18 then s.abandon .text
    else s.abandon (.discard false)
  | .check route k text running => s.verdict route k text running b flawed
  | .discard false =>
    if !flawed && b = 0x03 then { s with parser.state := .discard true }
    else if !flawed && b = 0x01 then { s with parser.state := .route }
    else s
  | .discard true => { s with parser.state := .text }

/-- A character from the bit sampler (R64), before the character boundary it may give. -/
def State.takeCharacter (s : State) (b : Byte) (flawed : Bool) : State :=
  let s' := s.count fun c =>
    { c with received := bump c.received, flawed := if flawed then bump c.flawed else c.flawed }
  match inLine b flawed with
  | some c => s'.takeInLine c
  | none => s'.takeData b flawed

/-- The record under assembly abandoned, or DISCARD left, at a gap or a break (R70). -/
def State.breakRecord (s : State) : State :=
  if s.parser.state.assembling then s.abandon .text else { s with parser.state := .text }

/-- A gap (R70): one flawed SUB to the sink, and the record abandoned. -/
def State.takeGap (s : State) : State := (s.toSink 0x1A true).breakRecord

/-- A break received (R43, R70): the indication to the parser, and the alert. -/
def State.takeBreak (s : State) : State := s.breakRecord.alertBoth .breakReceived

end Sys2Proof.Machine
end

