-- ==== Sys2Proof/Machine/KeyScanner.lean ====
section
/-! DEFINITION. The keyboard scanner (chapter 6): the keymap, debounce, rollover and phantom tests, codes and
modifiers, auto-repeat, routing, and the focus. -/

namespace Sys2Proof.Machine

open Sys2Proof

/-! ## Keymap -/

/-- What the keymap gives a position (R115). -/
inductive Key where
  | char (unshifted shifted : Byte)
  | edit (code : Byte)
  | function (code : Byte)
  | shift
  | ctrl
  | caps
  | feed
  | breakKey
  | select
  | absent
  deriving DecidableEq, Repr

/-- A letter key, by its upper-case code. -/
def letterKey (upper : Byte) : Key := .char (upper ||| 0x20) upper

/-- Drive lines 0 and 1 of the keymap (section 11.8). -/
def keymap01 : List Key :=
  [.function 0x81, .function 0x82, .function 0x83, .function 0x84, .function 0x85, .function 0x86, .function 0x87,
    .function 0x88, .edit 0x1B, .edit 0x08,
    .char 0x31 0x21, letterKey 0x51, letterKey 0x57, .char 0x32 0x40, .char 0x33 0x23, .char 0x34 0x24,
    .char 0x35 0x25, .char 0x36 0x5E, .char 0x37 0x26, .char 0x38 0x2A]

/-- Drive lines 2 and 3. -/
def keymap23 : List Key :=
  [.edit 0x09, letterKey 0x41, letterKey 0x53, .char 0x39 0x28, .char 0x30 0x29, .char 0x2D 0x5F, .char 0x3D 0x2B,
    .char 0x5B 0x7B, .char 0x5D 0x7D, .char 0x60 0x7E,
    letterKey 0x5A, letterKey 0x58, letterKey 0x43, letterKey 0x45, letterKey 0x52, letterKey 0x54, letterKey 0x59,
    letterKey 0x55, letterKey 0x49, letterKey 0x4F]

/-- Drive lines 4 and 5. -/
def keymap45 : List Key :=
  [letterKey 0x50, letterKey 0x44, letterKey 0x46, letterKey 0x47, letterKey 0x48, letterKey 0x4A, letterKey 0x4B,
    letterKey 0x4C, .char 0x3B 0x3A, .char 0x27 0x22,
    letterKey 0x56, letterKey 0x42, letterKey 0x4E, letterKey 0x4D, .char 0x2C 0x3C, .char 0x2E 0x3E,
    .char 0x2F 0x3F, .char 0x5C 0x7C, .char 0x20 0x20, .edit 0x0D]

/-- Drive lines 6 and 7. -/
def keymap67 : List Key :=
  [.caps, .ctrl, .feed, .breakKey, .select, .absent, .absent, .absent, .absent, .absent,
    .shift, .absent, .absent, .absent, .absent, .absent, .absent, .absent, .absent, .shift]

/-- The keymap by position (R115, section 11.8). -/
def keymap : List Key := keymap01 ++ keymap23 ++ keymap45 ++ keymap67

def keyAt (p : KeyPos) : Key := keymap.getD p.val .absent

/-- Whether a key is of class MODIFIER (R115). -/
def Key.isModifier : Key → Bool
  | .shift | .ctrl | .caps => true
  | _ => false

/-- Whether a CHAR key is a letter (R116). -/
def isLetter (unshifted : Byte) : Bool := 0x61 ≤ unshifted && unshifted ≤ 0x7A

/-! ## Debounce -/

/-- A debounce record after a scan's observation (R111). -/
def Debounce.observe (r : Debounce) (down : Bool) : Debounce :=
  if down = r.down then ⟨r.down, 0⟩ else if r.agree + 1 < 3 then ⟨r.down, r.agree + 1⟩ else ⟨down, 0⟩

/-- Every record after a scan's 80 observations (R110, R111). -/
def Keyboard.observe (k : Keyboard) (down : BitVec 80) : Keyboard :=
  { k with debounce := Vector.ofFn fun p => k.debounce[p].observe (down.getLsbD p) }

/-- The positions whose stable level changed to UP between two records, in ascending order (R112). -/
def releasedBetween (old new : Vector Debounce 80) : List KeyPos :=
  (List.finRange 80).filter fun p => old[p].down && !new[p].down

/-- The candidates, in ascending order (R112). -/
def Keyboard.candidates (k : Keyboard) : List KeyPos :=
  (List.finRange 80).filter fun p => k.debounce[p].down && !k.down.contains p

/-- The repeat ended (R117). -/
def Keyboard.endRepeat (k : Keyboard) : Keyboard := { k with repeatKey := none, repeatTimer := none }

/-- A release (R112): the position leaves the down set, and its repeat stops. -/
def Keyboard.release (k : Keyboard) (p : KeyPos) : Keyboard :=
  if k.down.contains p then
    let k' := { k with down := k.down.filter (· ≠ p) }
    match k.repeatKey with
    | some r => if r.position = p then k'.endRepeat else k'
    | none => k'
  else k

/-! ## Rollover and phantom -/

/-- The number of non-modifier keys in the down set (R113). -/
def Keyboard.nonModifiers (k : Keyboard) : Nat := (k.down.filter fun p => !(keyAt p).isModifier).length

/-- The rollover test (R113). -/
def Keyboard.rolloverPasses (k : Keyboard) (p : KeyPos) : Bool := (keyAt p).isModifier || k.nonModifiers < 4

/-- Whether the position of a drive and a sense line is in the down set. -/
def Keyboard.isDown (k : Keyboard) (drive sense : Nat) : Bool := k.down.any fun p => p.val = 10 * drive + sense

/-- The phantom test (R114). -/
def Keyboard.phantomPasses (k : Keyboard) (p : KeyPos) : Bool :=
  let d := p.val / 10
  let n := p.val % 10
  !k.down.any fun q => q.val / 10 ≠ d && q.val % 10 ≠ n && k.isDown d (q.val % 10) && k.isDown (q.val / 10) n

/-! ## Modifiers and codes -/

/-- shift: on while either SHIFT position is in the down set (R116). -/
def Keyboard.shiftOn (k : Keyboard) : Bool := k.down.any fun p => keyAt p = .shift

/-- ctrl: on while the CTRL position is in the down set (R116). -/
def Keyboard.ctrlOn (k : Keyboard) : Bool := k.down.any fun p => keyAt p = .ctrl

/-- The modifiers as they stand. -/
def Keyboard.modifiers (k : Keyboard) : Modifiers := ⟨k.shiftOn, k.ctrlOn, k.caps⟩

/-- The code of a CHAR press (R116). -/
def charCode (m : Modifiers) (unshifted shifted : Byte) : Byte :=
  if isLetter unshifted then
    let b := if m.shift || m.caps then shifted else unshifted
    if m.ctrl then b &&& 0x1F else b
  else if m.shift then shifted
  else unshifted

/-! ## Routing -/

/-- A code offered to the key-to-line FIFO that it takes (R105). -/
def State.enterKeyFifo (s : State) (code : Byte) : State :=
  { s with
    sched.issued := s.sched.issued + 1
    sched.keyFifo := s.sched.keyFifo ++ [⟨code, s.sched.issued + 1⟩] }

/-- A code lost to a full key-to-line FIFO or key queue (R119, R121). -/
def State.loseKey (s : State) : State := s.beep.alertBoth .keyOverflow

/-- A code offered to the line (R119). -/
def State.keyToLine (s : State) (code : Byte) (copy : Bool) : State :=
  if s.sched.keyFifo.length < 32 then
    let s' := s.enterKeyFifo code
    if !copy then s'
    else if s'.arb.copyBuffer.length < 160 then s'.enterCopy code
    else s'.alertBoth .keyOverflow
  else s.loseKey

/-- A code routed to the key queue for a port (R121). -/
def State.keyToQueue (s : State) (p : Port) (code : Byte) (cls : KeyClass) (m : Modifiers) (repeated : Bool) : State :=
  if s.kbd.queue.length < 16 then
    { s with kbd.queue := s.kbd.queue ++ [KeyEntry.mk code cls m repeated p] }.raiseKeys p .entry
  else s.loseKey

/-- A produced code routed (R118). -/
def State.routeKey (s : State) (code : Byte) (cls : KeyClass) (m : Modifiers) (repeated : Bool) : State :=
  match s.kbd.focus with
  | none => s.beep
  | some p =>
    if cls = .function then s.keyToQueue p code cls m repeated
    else
      match s.settings.keyMode.get p with
      | .queue => s.keyToQueue p code cls m repeated
      | .line => s.keyToLine code false
      | .lineCopy => s.keyToLine code true

/-! ## Presses -/

/-- A position made the repeat key (R117). -/
def State.startRepeat (s : State) (p : KeyPos) (code : Byte) (cls : KeyClass) (m : Modifiers) : State :=
  { s with
    kbd.repeatKey := some { position := p, code, cls, mods := m, interval := 1000000 / s.settings.repeatRate }
    kbd.repeatTimer := some (ms s.settings.repeatDelay) }

/-- The repeat ended by a press (R117). -/
def State.endRepeat (s : State) : State := { s with kbd := s.kbd.endRepeat }

/-- The FEED key (R120). -/
def State.feedKey (s : State) : State :=
  if s.arb.feeds < 9 then { s with arb.feeds := s.arb.feeds + 1 } else s.beep

/-- The BREAK key (R120). -/
def State.breakKey (s : State) : State := if s.serving then s.requestBreak else s.beep

/-- The focus moved to a port by SELECT (R126). -/
def State.selectFocus (s : State) (new : Port) : State :=
  let s' := { s with kbd.focus := some new, kbd.wanted := none }
  match s.kbd.focus with
  | some old => (s'.raiseKeys old .focusLost).raiseKeys new .focusGranted
  | none => s'.raiseKeys new .focusGranted

/-- The SELECT key (R126). -/
def State.selectKey (s : State) : State :=
  match s.kbd.focus with
  | some p =>
    if s.kbd.attached.get (otherPort p) then s.selectFocus (otherPort p) else { s with kbd.wanted := none }.beep
  | none =>
    if s.kbd.attached.a then s.selectFocus .a
    else if s.kbd.attached.b then s.selectFocus .b
    else { s with kbd.wanted := none }.beep

/-- A recognised press (R112, R115): the position joins the down set and acts by its class. -/
def State.pressKey (s : State) (p : KeyPos) : State :=
  let s' := { s with kbd.down := s.kbd.down ++ [p] }
  let m := s'.kbd.modifiers
  match keyAt p with
  | .shift => s'
  | .ctrl => s'
  | .caps => { s' with kbd.caps := !s.kbd.caps }
  | .absent => s'.endRepeat
  | .feed => s'.endRepeat.feedKey
  | .breakKey => s'.endRepeat.breakKey
  | .select => s'.endRepeat.selectKey
  | .function code => s'.endRepeat.routeKey code .function m false
  | .edit code => (s'.startRepeat p code .edit m).routeKey code .edit m false
  | .char u v => (s'.startRepeat p (charCode m u v) .char m).routeKey (charCode m u v) .char m false

/-- A candidate tested, and pressed when it passes both tests; a press reaches the line and print sides before the
next candidate is tested (R112). -/
def State.tryPress (s : State) (p : KeyPos) : State :=
  if s.kbd.rolloverPasses p && s.kbd.phantomPasses p then s.settleAfter (s.pressKey p) else s

/-- One scan (R110 to R114). -/
def State.scanKeys (s : State) (down : BitVec 80) : State :=
  let k := s.kbd.observe down
  let k := (releasedBetween s.kbd.debounce k.debounce).foldl Keyboard.release k
  k.candidates.foldl State.tryPress { s with kbd := k }

/-- A repeat produced (R117): routed by the focus and key mode as they stand, the timer restarted. -/
def State.produceRepeat (s : State) (r : RepeatKey) : State :=
  { s with kbd.repeatTimer := some r.interval }.routeKey r.code r.cls r.mods true

end Sys2Proof.Machine
end

