-- ==== Sys2Proof/Machine/KeyEvents.lean ====
section
/-! DEFINITION. The events of the keyboard: the scan and the repeat timer (chapter 6). -/

namespace Sys2Proof.Machine

open Sys2Proof

/-- SCAN (R110): the next scan comes 5 ms later; none is made while RESETN is held low. -/
def execScan (down : BitVec 80) (s : State) : Host.Outcome State Fault Refusal :=
  .next (if s.power = .held then s else { s with kbd.scanTimer := Keyboard.reset.scanTimer }.scanKeys down)

/-- REPEAT_TIMER_EXPIRED (R117). -/
def execRepeatTimerExpired (s : State) : Host.Outcome State Fault Refusal :=
  .next (match s.kbd.repeatKey with
    | some r => if s.kbd.repeatTimer.isSome then s.settleAfter (s.produceRepeat r) else s
    | none => s)

end Sys2Proof.Machine
end

