-- ==== Sys2Proof/Machine/LineEvents.lean ====
section
/-! DEFINITION. The events of the line side: the modulator's reports, the demodulator, the carrier timers, the bit
sampler, the supervisor's timers and the scheduler's timers (chapters 2 to 5). An event that cannot happen in the
state it finds changes nothing (assumption 5). -/

namespace Sys2Proof.Machine

open Sys2Proof

/-! ## Modulator -/

/-- Whether a character frame is under way. -/
def Modulator.inCharacter : Modulator → Bool
  | .character _ _ => true
  | _ => false

/-- Whether a break is under way. -/
def Modulator.inBreak : Modulator → Bool
  | .breaking _ => true
  | _ => false

/-- CHARACTER_COMPLETE (R30, R86). -/
def execCharacterComplete (s : State) : Host.Outcome State Fault Refusal :=
  .next (if s.modem.modulator.inCharacter then s.settleAfter s.characterDone else s)

/-- A break complete (R31, R104). -/
def State.breakDone (s : State) : State := { s with modem.modulator := .markIdle, sched.breakRequest := .none }

/-- BREAK_COMPLETE (R31, R86): the modulator's report that the 250 ms are over, taken, as every expiry is, in any BREAK
(assumption 2). -/
def execBreakComplete (s : State) : Host.Outcome State Fault Refusal :=
  .next (if s.modem.modulator.inBreak then s.breakDone.settle else s)

/-! ## Demodulator -/

/-- ZERO_CROSSING (R33), a sign change of the MIC pin: the half-period is the counter's value, `ticks` beyond what the
counter holds, at most 4095 (assumption 4). In LOOP the microphone is ignored (R27, R46). -/
def execZeroCrossing (ticks : Nat) (s : State) : Host.Outcome State Fault Refusal :=
  .next (if s.power = .held || demodInput s.modem.mode = .modulator then s
    else s.recordHalfPeriod (min (s.modem.crossing + ticks) 4095))

/-- CROSSING_COUNTER_4095 (R33). -/
def execCrossingCounter4095 (s : State) : Host.Outcome State Fault Refusal :=
  .next (if s.power = .held then s else s.recordHalfPeriod 4095)

/-! ## Carrier status -/

/-- The supervisor ONLINE (R50, R51): in ORIGINATE the carrier turns on, and a local XOFF is owed to the remote. -/
def State.goOnline (s : State) : State :=
  { s with
    modem := s.modem.carrierOn
    sup.state := .online
    sup.connectTimer := none
    parser.pendingFlow := if s.parser.localFlow = Flow.xoff then some Flow.xoff else s.parser.pendingFlow }.lineEvent .online

/-- The carrier PRESENT from QUALIFYING (R36, R50). -/
def State.carrierQualified (s : State) : State :=
  let s' := { s with modem := s.modem.enterPresent }
  if s.sup.state = .calling || s.sup.state = .answering then s'.goOnline.settle else s'

/-- QUALIFY_RUN_EXPIRED (R36). -/
def execQualifyRunExpired (s : State) : Host.Outcome State Fault Refusal :=
  .next (if s.modem.carrier = .qualifying && s.modem.qualifyTimer.isSome then s.carrierQualified else s)

/-- FADING entered (R37, R44). -/
def Modem.enterFading (m : Modem) (fade : Nat) : Modem :=
  { m with
    carrier := .fading
    silenceTimer := none
    requalifyTimer := none
    fadeTimer := some fade
    level := .mark
    sampler := Sampler.suspend }

/-- The silence timer expired (R37, R44): FADING, and one gap to the parser. -/
def State.carrierFading (s : State) : State :=
  ({ s with modem := s.modem.enterFading (ms s.settings.fadeTime) }.takeGap).settle

/-- SILENCE_TIMER_EXPIRED (R37). -/
def execSilenceTimerExpired (s : State) : Host.Outcome State Fault Refusal :=
  .next (if s.modem.carrier = .present && s.modem.silenceTimer.isSome then s.carrierFading else s)

/-- REQUALIFY_TIMER_EXPIRED (R38): PRESENT again, the sampler in HUNT; the supervisor is not told. -/
def execRequalifyTimerExpired (s : State) : Host.Outcome State Fault Refusal :=
  .next (if s.modem.carrier = .fading && s.modem.requalifyTimer.isSome then
      { s with modem := s.modem.enterPresent }
    else s)

/-- The fade timer expired (R38, R53). -/
def State.carrierLost (s : State) : State :=
  let s' := { s with modem := s.modem.forceAbsent }
  if s.serving then (s'.failActive .lineLost).goIdle .lost else s'

/-- FADE_TIMER_EXPIRED (R38). -/
def execFadeTimerExpired (s : State) : Host.Outcome State Fault Refusal :=
  .next (if s.modem.carrier = .fading && s.modem.fadeTimer.isSome then s.carrierLost else s)

/-! ## Bit sampler -/

/-- The character format's byte: bit 7 clear with 7 data bits (R42). -/
def receivedByte (t : Settings) (b : Byte) : Byte := if t.dataBits = 7 then b &&& 0x7F else b

/-- The sampler after a completed character (R42): HUNT after a mark stop bit, which clears the space run, WAIT_MARK
after a space stop bit. -/
def Sampler.afterCharacter (x : Sampler) (stopSpace : Bool) : Sampler :=
  if stopSpace then ⟨.waitMark, 0, [], x.spaceRun + 1⟩ else ⟨.hunt, 0, [], 0⟩

/-- A character completed by the sampler (R42) and taken by the parser (R64). -/
def State.characterIn (s : State) (byte : Byte) (flawed : Bool) : State := s.settleAfter (s.takeCharacter byte flawed)

/-- CHARACTER_RECEIVED (R42, assumption 9). -/
def execCharacterReceived (byte : Byte) (parityFault stopSpace : Bool) (s : State) :
    Host.Outcome State Fault Refusal :=
  .next (if s.modem.sampler.receiving then
      { s with modem.sampler := s.modem.sampler.afterCharacter stopSpace }.characterIn
        (receivedByte s.settings byte) ((parityFault && s.settings.parity ≠ Parity.none) || stopSpace)
    else s)

/-- A break received by the sampler (R43), with the run it counted. -/
def State.breakIn (s : State) (run : Nat) : State :=
  { s with modem.sampler := Sampler.enterBreak run }.takeBreak

/-- BREAK_RECEIVED (R43). -/
def execBreakReceived (s : State) : Host.Outcome State Fault Refusal :=
  .next (if s.modem.sampler.receiving then s.breakIn (2 * frameLength s.settings) else s)

/-- BREAK_END (R43). -/
def execBreakEnd (s : State) : Host.Outcome State Fault Refusal :=
  .next (if s.modem.sampler.state = .breaking then { s with modem.sampler := ⟨.hunt, 0, [], 0⟩ } else s)

/-- What a sample completes, taken by the parser (R42, R43). -/
def State.takeSampled (s : State) (x : Sampler) : Sampled → State
  | .nothing => { s with modem.sampler := x }
  | .character b flawed => { s with modem.sampler := x }.characterIn b flawed
  | .breakSeen => s.breakIn x.spaceRun

/-- BIT_SAMPLER_SAMPLE (R40 to R43). -/
def execBitSamplerSample (s : State) : Host.Outcome State Fault Refusal :=
  let r := s.modem.sampler.sample s.settings s.modem.level
  .next (s.takeSampled r.1 r.2)

/-! ## Supervisor -/

/-- CONNECT_TIMER_EXPIRED (R52). -/
def execConnectTimerExpired (s : State) : Host.Outcome State Fault Refusal :=
  .next (if (s.sup.state = .calling || s.sup.state = .answering) && s.sup.connectTimer.isSome then
      s.goIdle .noAnswer
    else s)

/-- CLEARING_TIMER_EXPIRED (R57). -/
def execClearingTimerExpired (s : State) : Host.Outcome State Fault Refusal :=
  .next (if s.sup.state = .clearing && s.sup.clearingTimer.isSome then
      (s.failActive .hungUp).goIdle .clearTimeout
    else s)

/-! ## Scheduler -/

/-- REPLY_TIMER_EXPIRED (R98). -/
def execReplyTimerExpired (s : State) : Host.Outcome State Fault Refusal :=
  .next (match s.replyWait with
    | some ct => if s.sched.replyTimer.isSome then s.settleAfter (s.retryRecord ct .noReply) else s
    | none => s)

/-- A hold wait on a chain given up (R93): its owner alerted and masked. -/
def State.giveUpChain (s : State) (h : SlotId) : State :=
  let s' := { s with sched.holdWait := none }.alertOwner (s.slot h).owner .holdExpired
  match (s.slot h).owner with
  | none => s'
  | some p => { s' with sched.masks := s'.sched.masks.set p (some (ms s.settings.maskTime)) }

/-- SEND_HOLD_TIMER_EXPIRED (R93). -/
def execSendHoldTimerExpired (s : State) : Host.Outcome State Fault Refusal :=
  .next (match s.sched.holdWait with
    | some ⟨.chain h, some _⟩ => s.settleAfter (s.giveUpChain h)
    | _ => s)

/-- A waiting answerback dropped (R94). -/
def State.giveUpAnswerback (s : State) : State :=
  { s with sched.holdWait := none, sched.answerbackPending := false }.alertOwner (s.slot 0).owner .holdExpired

/-- ANSWERBACK_HOLD_EXPIRED (R94). -/
def execAnswerbackHoldExpired (s : State) : Host.Outcome State Fault Refusal :=
  .next (match s.sched.holdWait with
    | some ⟨.answerback, some _⟩ => s.settleAfter s.giveUpAnswerback
    | _ => s)

/-- SEND_MASK_TIMER_EXPIRED (R93). -/
def execSendMaskTimerExpired (p : Port) (s : State) : Host.Outcome State Fault Refusal :=
  .next (if (s.sched.masks.get p).isSome then { s with sched.masks := s.sched.masks.set p none }.settle else s)

/-- The flow-limit timer expired (R103). -/
def State.flowExpired (s : State) : State :=
  { s with sched.remoteFlow := .xon, sched.flowTimer := none }.alertBoth .flowTimeout

/-- FLOW_LIMIT_TIMER_EXPIRED (R103). -/
def execFlowLimitTimerExpired (s : State) : Host.Outcome State Fault Refusal :=
  .next (if s.sched.flowTimer.isSome then s.flowExpired.settle else s)

end Sys2Proof.Machine
end

