-- ==== Sys2Proof/Decode.lean ====
section
/-! DEFINITION. The command table of section 11.5 as bytes: the codes, the bytes of a command, and the reading of a
write of port B (R183 to R185, R190). `decodeTableWord` answers none, since spec/opcode_table.json gives no row any
bits. -/

namespace Sys2Proof

/-! ## The bytes of a command -/

/-- The code of a command (R190). -/
def PortCommand.code : PortCommand → Byte
  | .claim _ => 0x10
  | .release _ => 0x11
  | .setAttributes _ _ _ _ _ _ _ => 0x12
  | .writeText _ _ _ _ _ => 0x13
  | .readText _ _ _ => 0x14
  | .readFlaws _ => 0x15
  | .readSlotInfo _ => 0x16
  | .hold _ => 0x17
  | .unhold _ => 0x18
  | .post _ => 0x19
  | .repost _ => 0x1A
  | .edit _ => 0x1B
  | .withdraw _ => 0x1C
  | .arm _ => 0x1D
  | .connect _ => 0x20
  | .hangUp _ => 0x21
  | .lineReset => 0x22
  | .sendBreak => 0x23
  | .readLineStatus => 0x24
  | .clearCounters => 0x25
  | .readOpenText _ => 0x26
  | .takeFocus => 0x30
  | .giveFocus => 0x31
  | .readKeys _ => 0x32
  | .feed _ => 0x40
  | .readPrintStatus => 0x41
  | .drainMark _ => 0x50
  | .readDrain => 0x51
  | .readEvent => 0x52
  | .ackEvent _ => 0x53
  | .setEventMask _ => 0x54
  | .setAlertEnables _ => 0x55
  | .readAlerts => 0x56
  | .configure _ _ => 0x60
  | .readSetting _ => 0x61
  | .readStatus => 0x62
  | .controllerReset => 0x63

/-- The argument bytes of a command, in order (R190, R194). -/
def PortCommand.arguments : PortCommand → List Byte
  | .claim k => [k]
  | .release i => [i]
  | .setAttributes i p n f r c b => [i, p, n, f, r, c, b]
  | .writeText i o n e bytes => i :: o :: n :: e :: bytes
  | .readText i o n => [i, o, n]
  | .readFlaws i => [i]
  | .readSlotInfo i => [i]
  | .hold i => [i]
  | .unhold i => [i]
  | .post i => [i]
  | .repost i => [i]
  | .edit i => [i]
  | .withdraw i => [i]
  | .arm i => [i]
  | .connect m => [m]
  | .hangUp m => [m]
  | .readOpenText n => [n]
  | .readKeys n => [n]
  | .feed n => [n]
  | .drainMark p => [p]
  | .ackEvent n => [n]
  | .setEventMask m => [m]
  | .setAlertEnables m => [m]
  | .configure k v => [k, v.extractLsb' 8 8, v.extractLsb' 0 8]
  | .readSetting k => [k]
  | .lineReset | .sendBreak | .readLineStatus | .clearCounters | .takeFocus | .giveFocus | .readPrintStatus
  | .readDrain | .readEvent | .readAlerts | .readStatus | .controllerReset => []

/-- A command as the bytes a port receives: the command byte, then the argument bytes. -/
def PortCommand.bytes (c : PortCommand) : List Byte := c.code :: c.arguments

/-! ## Reading a write -/

/-- What the data bytes of a write are (R184, R185). -/
inductive Parsed where
  | nothing
  | unknown (cmd : Byte)
  | short (cmd : Byte)
  | command (c : PortCommand)
  deriving DecidableEq, Repr

/-- A command of one argument byte; further bytes are discarded. -/
def oneArgument (cmd : Byte) (f : Byte → PortCommand) : List Byte → Parsed
  | a :: _ => .command (f a)
  | [] => .short cmd

/-- A command of three argument bytes. -/
def threeArguments (cmd : Byte) (f : Byte → Byte → Byte → PortCommand) : List Byte → Parsed
  | a :: b :: c :: _ => .command (f a b c)
  | _ => .short cmd

/-- SET ATTRIBUTES and its seven argument bytes. -/
def attributeArguments (cmd : Byte) : List Byte → Parsed
  | i :: p :: n :: f :: r :: c :: b :: _ => .command (.setAttributes i p n f r c b)
  | _ => .short cmd

/-- WRITE TEXT: four arguments and count bytes of text; a count outside 1 to 32 ends the arguments at the fourth byte
(R183). -/
def textArguments (cmd : Byte) : List Byte → Parsed
  | i :: o :: n :: e :: rest =>
    if 1 ≤ n.toNat ∧ n.toNat ≤ 32 then
      if n.toNat ≤ rest.length then .command (.writeText i o n e (rest.take n.toNat)) else .short cmd
    else .command (.writeText i o n e [])
  | _ => .short cmd

/-- The slot commands by their code, 0x10 to 0x1D (R190). -/
def parseSlot (cmd : Byte) (args : List Byte) : Parsed :=
  if cmd = 0x10 then oneArgument cmd .claim args
  else if cmd = 0x11 then oneArgument cmd .release args
  else if cmd = 0x12 then attributeArguments cmd args
  else if cmd = 0x13 then textArguments cmd args
  else if cmd = 0x14 then threeArguments cmd .readText args
  else if cmd = 0x15 then oneArgument cmd .readFlaws args
  else if cmd = 0x16 then oneArgument cmd .readSlotInfo args
  else if cmd = 0x17 then oneArgument cmd .hold args
  else if cmd = 0x18 then oneArgument cmd .unhold args
  else if cmd = 0x19 then oneArgument cmd .post args
  else if cmd = 0x1A then oneArgument cmd .repost args
  else if cmd = 0x1B then oneArgument cmd .edit args
  else if cmd = 0x1C then oneArgument cmd .withdraw args
  else if cmd = 0x1D then oneArgument cmd .arm args
  else .unknown cmd

/-- The line, key and print commands by their code, 0x20 to 0x41 (R190). -/
def parseLine (cmd : Byte) (args : List Byte) : Parsed :=
  if cmd = 0x20 then oneArgument cmd .connect args
  else if cmd = 0x21 then oneArgument cmd .hangUp args
  else if cmd = 0x22 then .command .lineReset
  else if cmd = 0x23 then .command .sendBreak
  else if cmd = 0x24 then .command .readLineStatus
  else if cmd = 0x25 then .command .clearCounters
  else if cmd = 0x26 then oneArgument cmd .readOpenText args
  else if cmd = 0x30 then .command .takeFocus
  else if cmd = 0x31 then .command .giveFocus
  else if cmd = 0x32 then oneArgument cmd .readKeys args
  else if cmd = 0x40 then oneArgument cmd .feed args
  else if cmd = 0x41 then .command .readPrintStatus
  else .unknown cmd

/-- The event, setting and status commands by their code, 0x50 to 0x63 (R190). -/
def parsePart (cmd : Byte) (args : List Byte) : Parsed :=
  if cmd = 0x50 then oneArgument cmd .drainMark args
  else if cmd = 0x51 then .command .readDrain
  else if cmd = 0x52 then .command .readEvent
  else if cmd = 0x53 then oneArgument cmd .ackEvent args
  else if cmd = 0x54 then oneArgument cmd .setEventMask args
  else if cmd = 0x55 then oneArgument cmd .setAlertEnables args
  else if cmd = 0x56 then .command .readAlerts
  else if cmd = 0x60 then threeArguments cmd (fun k hi lo => .configure k (hi ++ lo)) args
  else if cmd = 0x61 then oneArgument cmd .readSetting args
  else if cmd = 0x62 then .command .readStatus
  else if cmd = 0x63 then .command .controllerReset
  else .unknown cmd

/-- The data bytes of a write, read as a command (R185): a byte of the command table, in whichever of its three parts
it stands, with its own arguments. -/
def parseCommand : List Byte → Parsed
  | [] => .nothing
  | cmd :: args =>
    if cmd < 0x20 then parseSlot cmd args else if cmd < 0x50 then parseLine cmd args else parsePart cmd args

/-- Whether a byte is a command byte of the table (R184). -/
def knownCommand (cmd : Byte) : Bool :=
  match parseCommand [cmd] with
  | .unknown _ => false
  | _ => true

/-! ## The host's question -/

/-- The command that a word of the table's bits spells: none, since the table gives no row any bits (assumption 34).
-/
def decodeTableWord (_nbits _w : Nat) : Option Instr := none

end Sys2Proof
end

