-- ==== Sys2Proof/Machine/Layouts.lean ====
section
/-! DEFINITION. The response layouts of section 11.7 (R194): slot info, flaw maps, the three status layouts, the drain
byte, key entries and event reports. -/

namespace Sys2Proof.Machine

open Sys2Proof

/-! ## Codes -/

/-- The kind codes, as CLAIM. -/
def kindNumber : Kind → Nat
  | .send => 0
  | .print => 1
  | .receive => 2
  | .answerback => 3

/-- The slot state codes. A FREE slot has none, and no response names one (R5). -/
def slotStateByte : SlotState → Byte
  | .free => absentByte
  | .held => 0
  | .queued => 1
  | .active => 2
  | .copying => 3
  | .done => 4
  | .aborted => 5
  | .failed => 6
  | .armed => 7
  | .pending => 8
  | .standing => 9

def outcomeNumber : EndOutcome → Nat
  | .sent => 0
  | .printed => 1
  | .copyCut => 2
  | .withdrawn => 3
  | .refused => 4
  | .noReply => 5
  | .lineLost => 6
  | .hungUp => 7
  | .lineReset => 8
  | .controllerReset => 9

def supStateNumber : SupState → Nat
  | .idle => 0
  | .calling => 1
  | .answering => 2
  | .online => 3
  | .clearing => 4

def reasonNumber : LineReason → Nat
  | .none => 0
  | .calling => 1
  | .answering => 2
  | .online => 3
  | .noAnswer => 4
  | .clearing => 5
  | .cleared => 6
  | .clearTimeout => 7
  | .lost => 8
  | .hungUp => 9
  | .reset => 10

def carrierNumber : Carrier → Nat
  | .absent => 0
  | .qualifying => 1
  | .present => 2
  | .fading => 3

def modeNumber : Mode → Nat
  | .originate => 0
  | .answer => 1
  | .loop => 2

def parserNumber : ParserState → Nat
  | .text => 0
  | .route => 1
  | .cls _ => 2
  | .body _ _ _ _ => 3
  | .check _ _ _ _ => 4
  | .discard _ => 5

def engineNumber : EngineState → Nat
  | .idle => 0
  | .row => 1
  | .blank => 2
  | .held => 3

def jobNumber : AutoJob → Nat
  | .absent => 0
  | .waiting => 1
  | .printing => 2

def keyClassNumber : KeyClass → Nat
  | .char => 0
  | .edit => 1
  | .function => 2

/-- The whole seconds left on a timer, rounded down (R62). -/
def secondsLeft (t : Timer) : Nat := t.getD 0 / 1000000

/-! ## Slot info and flaw maps -/

/-- The flags of slot info; a flag the kind does not hold reads 0. -/
def Slot.infoFlags (x : Slot) : Nat :=
  flagBits [x.kind = some .send && x.copy, x.kind = some .receive && x.protect,
    x.kind = some .receive && x.autoprint, x.kind ≠ some .receive && x.hold,
    (x.record.map (·.overwritten)).getD false, (x.record.map (·.bad)).getD false, x.record.isSome]

/-- Slot info, 17 bytes (R15, R194): a field the kind does not hold, or that is absent, reads 0xFF. -/
def slotInfo (i : SlotId) (x : Slot) : List Byte :=
  let send := x.kind = some .send
  let receive := x.kind = some .receive
  let chain := x.isChainKind
  let only (c : Bool) (b : Byte) : Byte := if c then b else absentByte
  [byteOf i.val, optionByte kindNumber x.kind, byteOf (portCode x.owner), slotStateByte x.state, byteOf x.length,
    only (chain || receive) (byteOf x.priority),
    only chain (optionByte Fin.val x.successor),
    only chain (optionByte Fin.val x.chainHead),
    only send (if x.framing = .plain then 0 else 1),
    only (send || receive) x.route,
    only send (classByte x.cls),
    byteOf x.infoFlags,
    only send (byteOf x.attempts),
    only chain (optionByte outcomeNumber x.outcome),
    (x.record.map (·.route)).getD absentByte,
    (x.record.map fun r => classByte r.cls).getD absentByte,
    only receive (byteOf (jobNumber x.job))]

/-- A flaw map of a list of flaws (R194): entry p is bit p mod 8 of byte p / 8. -/
def flawMap : Nat → List Bool → List Byte
  | 0, _ => []
  | n + 1, l => byteOf (flagBits (l.take 8)) :: flawMap n (l.drop 8)

/-- The 80-position flaw map of a slot, 10 bytes (R14). -/
def slotFlawMap (x : Slot) : List Byte := flawMap 10 ((List.range 80).map x.flaws.getLsbD)

/-! ## Line status -/

/-- The flow byte of line status. -/
def State.flowFlags (s : State) : Nat :=
  (if s.parser.localFlow = .xoff then 1 else 0)
    + 2 * (match s.parser.pendingFlow with
        | none => 0
        | some .xon => 1
        | some .xoff => 2)
    + (if s.sched.remoteFlow = .xoff then 8 else 0)
    + (if s.sched.answerbackPending then 16 else 0)

/-- What is left of the clearing set in CLEARING: chains and characters, 0 in any other state (R62). -/
def State.clearingLeft (s : State) : Nat × Nat :=
  match s.sup.state, s.sup.clearing with
  | .clearing, some c => (c.chains.length, c.chars.length)
  | _, _ => (0, 0)

/-- The nine counters in the order of R82. -/
def Counters.list (c : Counters) : List Nat :=
  [c.received, c.flawed, c.filed, c.discarded, c.lost, c.unrouted, c.stray, c.fifoDrops, c.openDropped]

/-- Line status, 32 bytes (R62, R83). -/
def State.lineStatus (s : State) : List Byte :=
  [byteOf (supStateNumber s.sup.state), byteOf (modeNumber s.modem.mode), byteOf (carrierNumber s.modem.carrier),
    byteOf (reasonNumber s.sup.reason), byteOf s.clearingLeft.1, byteOf s.clearingLeft.2,
    byteOf (if s.sup.state = .clearing then secondsLeft s.sup.clearingTimer else 0),
    byteOf (if s.sup.state = .calling || s.sup.state = .answering then secondsLeft s.sup.connectTimer else 0),
    byteOf (parserNumber s.parser.state), byteOf s.flowFlags]
    ++ wordBytes s.parser.fifo.length
    ++ [byteOf s.parser.replies.length, byteOf (sinkNumber s.settings.sink)]
    ++ s.parser.counters.list.flatMap wordBytes

/-! ## Print status -/

/-- The current unit's code. -/
def unitNumber : PrintUnit → Nat
  | .none => 0
  | .feed => 1
  | .live .lds _ => 2
  | .live .lcs _ => 3
  | .job j _ _ _ =>
    match j.kind with
    | .print => 4
    | .copy => 5
    | .auto => 6

/-- The head of a print hold wait under way; absent once the UNHOLD has stopped its timer (assumption 32). -/
def State.printHoldHead (s : State) : Option SlotId :=
  match s.arb.holdWait with
  | some w => if w.timer.isSome then some w.head else none
  | none => none

/-- Print status, 25 bytes (R147, R165); absent fields as assumption 14. -/
def State.printStatus (s : State) : List Byte :=
  let e := s.engine
  [byteOf (unitNumber s.arb.unit),
    (match s.arb.unit with
      | .job j _ _ _ => byteOf j.slot.val
      | _ => absentByte),
    (match s.arb.unit with
      | .job _ _ _ n => byteOf n
      | _ => absentByte),
    optionByte Fin.val s.printHoldHead,
    byteOf (flagBits [s.arb.withdrawalPending, s.sourceReady .lds, s.sourceReady .lcs, s.arb.masks.a.isSome,
      s.arb.masks.b.isSome, s.arb.lastUnit = .queue, s.arb.lastJobPort = .b]),
    byteOf s.arb.queue.length, byteOf s.arb.copyBuffer.length, byteOf s.arb.feeds,
    byteOf (engineNumber e.state),
    (if e.line.isSome then byteOf e.step else absentByte),
    byteOf (flagBits [e.stopRequested, e.supply, e.heat, e.paper, e.paperOutPending, e.lastPaperOut,
      e.batteryJudged, e.headJudged])]
    ++ wordBytes e.record.v
    ++ [signedByte e.record.th]
    ++ wordBytes e.record.td
    ++ wordBytes e.record.ts
    ++ [byteOf e.record.nmax, byteOf e.record.groups]
    ++ wordBytes e.record.period
    ++ [byteOf e.phaseIndex.val]
    ++ wordBytes e.stepCounter.toNat

/-! ## Status -/

/-- The current turn's code; an answerback set between records is an ANSWERBACK (assumption 13). -/
def turnNumber : Turn → Nat
  | .none => 0
  | .answerback _ _ => 1
  | .key _ => 2
  | .chain _ => 3

def breakNumber : BreakRequest → Nat
  | .none => 0
  | .requested => 1
  | .sending => 2

def levelNumber : LampLevel → Nat
  | .dark => 0
  | .lit => 1
  | .blinking => 2

/-- Two bits per lamp, LINE in bits 0 and 1. -/
def pairBits : List Nat → Nat
  | [] => 0
  | x :: xs => x + 4 * pairBits xs

/-- Status, 20 bytes (R193, with R109, R128 and R173). -/
def State.status (s : State) : List Byte :=
  let k := s.kbd
  [byteOf (s.slotsWhere fun i x => i ≠ 0 && x.state = .free).length,
    byteOf (s.owned .a), byteOf (s.owned .b), byteOf (portCode (s.slot 0).owner),
    byteOf s.sched.sendQueue.length, byteOf s.sched.keyFifo.length, byteOf (turnNumber s.sched.turn),
    (match s.sched.turn with
      | .chain ct => byteOf ct.head.val
      | _ => absentByte),
    byteOf (flagBits [s.sched.holdWait.isSome, s.replyWait.isSome] + 4 * breakNumber s.sched.breakRequest
      + 16 * flagBits [s.sched.masks.a.isSome, s.sched.masks.b.isSome, s.sched.lastTurn = .chain]),
    byteOf (portCode k.focus),
    byteOf (portCode k.wanted + 4 * flagBits [k.attached.a, k.attached.b, k.caps, k.repeatKey.isSome]),
    byteOf (s.keyCount .a), byteOf (s.keyCount .b), byteOf k.nonModifiers]
    ++ wordBytes s.monitor.v
    ++ [signedByte s.monitor.th,
      byteOf (flagBits [s.monitor.batteryTaken, s.monitor.headTaken, s.monitor.supplyLow, s.monitor.burst.isSome]),
      byteOf (pairBits [lampModeNumber s.settings.lampLine, lampModeNumber s.settings.lampPaper,
        lampModeNumber s.settings.lampSupply, lampModeNumber s.settings.lampFocus]),
      byteOf (pairBits (s.lampLevels.map levelNumber))]

/-! ## Drain byte and key entries -/

def lineMarkNumber : LineMark → Nat
  | .none => 0
  | .pending _ => 1
  | .complete => 2

def printMarkNumber : PrintMark → Nat
  | .none => 0
  | .pending _ => 1
  | .complete => 2

/-- The drain byte of a port (R109). -/
def State.drainByte (s : State) (p : Port) : Byte :=
  byteOf (lineMarkNumber (s.sched.marks.get p) + 4 * printMarkNumber (s.arb.marks.get p))

/-- A key entry, 2 bytes (R122). -/
def keyEntryBytes (e : KeyEntry) : List Byte :=
  [e.code,
    byteOf (keyClassNumber e.cls + 4 * flagBits [e.mods.shift, e.mods.ctrl, e.mods.caps, e.repeated, e.tag = .b])]

/-! ## Event reports -/

def lostNumber : LostReason → Nat
  | .overwritten => 0
  | .dropped => 1

def keysNumber : KeysReason → Nat
  | .entry => 0
  | .focusWanted => 1
  | .focusGranted => 2
  | .focusLost => 3

def portReasonNumber : PortReason → Nat
  | .short => 0
  | .unknown => 1
  | .timeout => 2

def pathNumber : Path → Nat
  | .line => 0
  | .print => 1

/-- The three detail bytes of an occurrence (R175, R194). -/
def detailBytes : EventDetail → List Byte
  | .ended h o => [byteOf h.val, byteOf (outcomeNumber o), absentByte]
  | .received i r => [byteOf i.val, r, absentByte]
  | .lost w i r => [byteOf (lostNumber w), byteOf i.val, r]
  | .keys w h n => [byteOf (keysNumber w), byteOf (portCode h), byteOf n]
  | .line st r => [byteOf (supStateNumber st), byteOf (reasonNumber r), absentByte]
  | .drained p => [byteOf (pathNumber p), absentByte, absentByte]
  | .alert c l => [byteOf c.index, l, absentByte]
  | .port r c => [byteOf (portReasonNumber r), c.getD absentByte, absentByte]

/-- The pending flags of a unit, bit n for source n. -/
def EventUnit.pendingByte (u : EventUnit) : Byte :=
  byteOf (flagBits ((List.finRange 8).map fun n => u.sources[n].isSome))

/-- The sources in priority order: from the one after the pointer round the ring to the pointer (R178). -/
def EventUnit.ring (u : EventUnit) : List (Fin 8) := (List.finRange 8).map fun k => u.pointer + k + 1

/-- The highest-priority source that is pending and unmasked (R178). -/
def EventUnit.highest (u : EventUnit) : Option (Fin 8) := u.ring.find? u.ready

/-- The event report, 7 bytes (R178); with EMPTY the source reads 0xFF (assumption 14 for the other bytes). -/
def EventUnit.report (u : EventUnit) : Response :=
  match u.highest with
  | some n =>
    ⟨.ok, [byteOf n.val, byteOf (u.occurrences n), u.pendingByte, u.masks]
      ++ (match u.sources[n] with
        | some o => detailBytes o.detail
        | none => [absentByte, absentByte, absentByte])⟩
  | none => ⟨.empty, [absentByte, 0, u.pendingByte, u.masks, absentByte, absentByte, absentByte]⟩

end Sys2Proof.Machine
end

