-- ==== Sys2Proof/Machine/Ports.lean ====
section
/-! DEFINITION. The two ports (chapter 11): attachment, answers, and when a port serves a command. -/

namespace Sys2Proof.Machine

open Sys2Proof

/-- The port's attached flag set (R123). -/
def State.attach (s : State) (p : Port) : State := { s with kbd.attached := s.kbd.attached.set p true }

/-- An answer given on a port: clocked out in port A's select (R183), kept as port B's last response (R186). -/
def State.respond (s : State) (p : Port) (r : Response) : State :=
  match p with
  | .a => { s with portA := .answered (responseBytes r) }
  | .b => { s with lastB := responseBytes r }

/-- Whether a port serves a transaction now (R188): the 2 ms after RESETN are over, and port A's select is not one
being ignored to its end. -/
def State.portServes (s : State) (p : Port) : Bool := s.power = .serving && !(p = .a && s.portA = .ignored)

/-- Port B's own address: 0x2C with ADDR low, 0x2D with ADDR high (section 11.1, R185). -/
def State.busAddress (s : State) : BitVec 7 := if s.addrHigh then 0x2D else 0x2C

/-- Whether port B acknowledges an address: its own and no other (R185), and none while RESETN is held low or in the
2 ms after its release (R188). -/
def State.acknowledges (s : State) (address : BitVec 7) : Bool := s.portServes .b && address = s.busAddress

/-- A transaction that finds its port not serving (R188): a select that begins in the 2 ms after RESETN is ignored to
its end; nothing else changes. -/
def State.ignoreTransaction (s : State) (p : Port) : State :=
  if p = .a && s.power = .ignoring then { s with portA := .ignored } else s

/-- A command executed for a port: the port is attached before the command acts (R123), and the answer goes out on the
port. -/
def State.execute (s : State) (p : Port) (f : State → State × Response) : State :=
  let r := f (s.attach p)
  r.1.respond p r.2

/-- A command that reaches a port: executed when the port serves it. -/
def State.servePort (s : State) (p : Port) (f : State → State × Response) : State :=
  if s.portServes p then s.execute p f else s.ignoreTransaction p

end Sys2Proof.Machine
end

