-- ==== Sys2Proof/Machine/EventCommands.lean ====
section
/-! DEFINITION. The commands of the event units (chapter 10). -/

namespace Sys2Proof.Machine

open Sys2Proof

/-- A port's event unit replaced. -/
def State.setUnit (s : State) (p : Port) (u : EventUnit) : State := { s with events := s.events.set p u }

/-- READ EVENT (R178). -/
def readEventCommand (p : Port) (s : State) : State × Response := (s, (s.events.get p).report)

/-- A source argument: 0 to 7 (R179). -/
def sourceArg (b : Byte) : Option (Fin 8) := if h : b.toNat < 8 then some ⟨b.toNat, h⟩ else none

/-- A source acknowledged (R179): its flag clears and the pointer moves to it. -/
def EventUnit.acknowledge (u : EventUnit) (n : Fin 8) : EventUnit :=
  { u with sources := u.sources.set n none, pointer := n }

/-- ACK EVENT (R179). -/
def ackEventCommand (p : Port) (source : Byte) (s : State) : State × Response :=
  match sourceArg source with
  | none => refuse .badArg s
  | some n =>
    let u := s.events.get p
    match u.sources[n] with
    | none => refuse .empty s
    | some o =>
      (s.setUnit p (u.acknowledge n), ⟨.ok, byteOf n.val :: byteOf o.count :: detailBytes o.detail⟩)

/-- SET EVENT MASK (R177). -/
def setEventMaskCommand (p : Port) (masks : Byte) (s : State) : State × Response :=
  answer .ok (s.setUnit p { s.events.get p with masks := masks })

/-- SET ALERT ENABLES (R181). -/
def setAlertEnablesCommand (p : Port) (enables : Byte) (s : State) : State × Response :=
  answer .ok (s.setUnit p { s.events.get p with enables := enables })

/-- READ ALERTS (R182). -/
def readAlertsCommand (p : Port) (s : State) : State × Response :=
  let u := s.events.get p
  if u.latched = 0 then refuse .empty s else (s.setUnit p { u with latched := 0 }, ⟨.ok, [u.latched]⟩)

/-! ## Meanings -/

def execReadEvent (p : Port) (s : State) : Host.Outcome State Fault Refusal :=
  .next (s.servePort p (readEventCommand p))

def execAckEvent (p : Port) (source : Byte) (s : State) : Host.Outcome State Fault Refusal :=
  .next (s.servePort p (ackEventCommand p source))

def execSetEventMask (p : Port) (masks : Byte) (s : State) : Host.Outcome State Fault Refusal :=
  .next (s.servePort p (setEventMaskCommand p masks))

def execSetAlertEnables (p : Port) (enables : Byte) (s : State) : Host.Outcome State Fault Refusal :=
  .next (s.servePort p (setAlertEnablesCommand p enables))

def execReadAlerts (p : Port) (s : State) : Host.Outcome State Fault Refusal :=
  .next (s.servePort p (readAlertsCommand p))

end Sys2Proof.Machine
end

