-- ==== Sys2Proof/Machine/KeyCommands.lean ====
section
/-! DEFINITION. The keyboard commands: the focus and the key queue (chapter 6). -/

namespace Sys2Proof.Machine

open Sys2Proof

/-- TAKE FOCUS (R124). A refusal sets the focus-wanted flag and tells the holder. -/
def takeFocusCommand (p : Port) (s : State) : State × Response :=
  match s.kbd.focus with
  | none => answer .ok { s with kbd.focus := some p, kbd.wanted := none }
  | some q =>
    if q = p then answer .ok s
    else answer .focusHeld ({ s with kbd.wanted := some p }.raiseKeys q .focusWanted)

/-- The focus given up (R125): to the port that wants it, or to none. -/
def State.passFocus (s : State) : State :=
  match s.kbd.wanted with
  | some q => { s with kbd.focus := some q, kbd.wanted := none }.raiseKeys q .focusGranted
  | none => { s with kbd.focus := none }

/-- GIVE FOCUS (R125). -/
def giveFocusCommand (p : Port) (s : State) : State × Response :=
  if s.kbd.focus = some p then answer .ok s.passFocus else refuse .wrongState s

/-- A queue without its first `n` entries tagged with a port (R122). -/
def dropTagged (p : Port) : Nat → List KeyEntry → List KeyEntry
  | 0, l => l
  | _, [] => []
  | n + 1, e :: l => if e.tag = p then dropTagged p n l else e :: dropTagged p (n + 1) l

/-- READ KEYS (R122). -/
def readKeysCommand (p : Port) (count : Byte) (s : State) : State × Response :=
  if count.toNat < 1 || 8 < count.toNat then refuse .badArg s
  else
    let mine := s.kbd.queue.filter fun e => e.tag = p
    if mine.isEmpty then refuse .empty s
    else
      let l := mine.take count.toNat
      ({ s with kbd.queue := dropTagged p l.length s.kbd.queue },
        ⟨.ok, byteOf l.length :: l.flatMap keyEntryBytes⟩)

/-! ## Meanings -/

def execTakeFocus (p : Port) (s : State) : Host.Outcome State Fault Refusal :=
  .next (s.servePort p (takeFocusCommand p))

def execGiveFocus (p : Port) (s : State) : Host.Outcome State Fault Refusal :=
  .next (s.servePort p (giveFocusCommand p))

def execReadKeys (p : Port) (count : Byte) (s : State) : Host.Outcome State Fault Refusal :=
  .next (s.servePort p (readKeysCommand p count))

end Sys2Proof.Machine
end

