-- ==== Sys2Proof/Machine/LineCommands.lean ====
section
/-! DEFINITION. The line commands: connection, line reset, break, line status, counters and open text (chapters 3 to
5). -/

namespace Sys2Proof.Machine

open Sys2Proof

/-! ## CONNECT -/

/-- The state a mode's attempt enters (R49). -/
def attemptState : Mode → SupState
  | .answer => .answering
  | _ => .calling

/-- The reason of an attempt's LINE event (R49). -/
def attemptReason : Mode → LineReason
  | .answer => .answering
  | _ => .calling

/-- A connection attempt begun (R49): the carrier is on at once in ANSWER and LOOP. -/
def State.beginAttempt (s : State) (m : Mode) : State :=
  let modem : Modem := { s.modem with mode := m }
  { s with
    modem := if m = Mode.originate then modem else modem.carrierOn
    sup.state := attemptState m
    sup.connectTimer := some (seconds s.settings.connectTimeout) }.lineEvent (attemptReason m)

/-- CONNECT (R49). -/
def connectCommand (mode : Byte) (s : State) : State × Response :=
  match modeArg mode with
  | none => refuse .badArg s
  | some m => if s.sup.state = .idle then answer .ok (s.beginAttempt m) else refuse .lineBusy s

/-! ## HANG UP -/

/-- The line dropped at once (R58). -/
def State.dropLine (s : State) : State := (s.failActive .hungUp).goIdle .hungUp

/-- The clearing set as it is fixed (R55): every QUEUED or ACTIVE send chain, every key-to-line character. -/
def State.fixedSet (s : State) : ClearingSet :=
  ⟨s.sched.sendQueue.map (·.head) ++ (s.activeChain.map (·.head)).toList, s.sched.keyFifo.map (·.entry)⟩

/-- Clearing begun (R54): on to IDLE in the same event when nothing is outstanding, with one LINE event. -/
def State.beginClearing (s : State) : State :=
  let s' := { s with
    sup.state := .clearing
    sup.clearing := some s.fixedSet
    sup.clearingTimer := some (seconds 120) }
  if s'.clearingDone then s'.goIdle .cleared else s'.lineEvent .clearing

/-- HANG UP (R54, R58). -/
def hangUpCommand (manner : Byte) (s : State) : State × Response :=
  if 1 < manner.toNat then refuse .badArg s
  else
    match s.sup.state with
    | .idle => refuse .lineIdle s
    | .calling | .answering => answer .ok s.dropLine
    | .online => answer .ok (if manner = 0 then s.beginClearing else s.dropLine)
    | .clearing => answer .ok (if manner = 0 then s else s.dropLine)

/-! ## LINE RESET -/

/-- The line side returned to its starting condition (R59). DESIGN CHOICE (assumption 37): within the one event a port's
line mark is judged first (R108), then its print mark (R145, with the receive direct FIFO emptied), then its line mark
once more with the key-to-line FIFO emptied, and the DRAINED that comes last leaves its detail (R175). -/
def State.resetLine (s : State) : State :=
  let s' := (s.failActive .lineReset).enterIdle
  let s' := { s' with
    modem := Modem.reset
    parser.localFlow := .xon
    sched.keyFifo := [] }.emptyFifo
  s'.testLineMarks.lineEvent .reset

/-- LINE RESET (R59). -/
def lineResetCommand (s : State) : State × Response := answer .ok s.resetLine

/-! ## BREAK, status and counters -/

/-- BREAK (R104). -/
def breakCommand (s : State) : State × Response :=
  if s.serving then answer .ok s.requestBreak.settle else refuse .lineIdle s

/-- READ LINE STATUS (R62, R83). -/
def readLineStatusCommand (s : State) : State × Response := (s, ⟨.ok, s.lineStatus⟩)

/-- CLEAR COUNTERS (R83). -/
def clearCountersCommand (s : State) : State × Response :=
  answer .ok { s with parser.counters := Counters.zero }

/-! ## READ OPEN TEXT -/

/-- The sink that names a port as the reader (R79). -/
def sinkOfPort : Port → Sink
  | .a => .portA
  | .b => .portB

/-- READ OPEN TEXT (R80): n, the n bytes, and their flaw map. -/
def readOpenTextCommand (p : Port) (count : Byte) (s : State) : State × Response :=
  if count.toNat < 1 || 32 < count.toNat then refuse .badArg s
  else if s.settings.sink ≠ sinkOfPort p then refuse .wrongState s
  else if s.parser.fifo.isEmpty then refuse .empty s
  else
    let l := s.parser.fifo.take count.toNat
    ((s.departFifo l.length false).settle,
      ⟨.ok, byteOf l.length :: (l.map (·.byte) ++ flawMap ((l.length + 7) / 8) (l.map (·.flawed)))⟩)

/-! ## Meanings -/

def execConnect (p : Port) (mode : Byte) (s : State) : Host.Outcome State Fault Refusal :=
  .next (s.servePort p (connectCommand mode))

def execHangUp (p : Port) (manner : Byte) (s : State) : Host.Outcome State Fault Refusal :=
  .next (s.servePort p (hangUpCommand manner))

def execLineReset (p : Port) (s : State) : Host.Outcome State Fault Refusal := .next (s.servePort p lineResetCommand)

def execSendBreak (p : Port) (s : State) : Host.Outcome State Fault Refusal := .next (s.servePort p breakCommand)

def execReadLineStatus (p : Port) (s : State) : Host.Outcome State Fault Refusal :=
  .next (s.servePort p readLineStatusCommand)

def execClearCounters (p : Port) (s : State) : Host.Outcome State Fault Refusal :=
  .next (s.servePort p clearCountersCommand)

def execReadOpenText (p : Port) (count : Byte) (s : State) : Host.Outcome State Fault Refusal :=
  .next (s.servePort p (readOpenTextCommand p count))

end Sys2Proof.Machine
end

