-- ==== Sys2Proof/Machine/PartCommands.lean ====
section
/-! DEFINITION. CONFIGURE, READ SETTING, READ STATUS and CONTROLLER RESET (chapter 11, with each block's own words on
its resets). -/

namespace Sys2Proof.Machine

open Sys2Proof

/-! ## Settings -/

/-- What a stored setting changes at once: a burst stopped by beeper_enable OFF (R172), the LDS remainders at a sink
other than PRINT (R145), and the selection point of a new sink or print_mode (R133). -/
def State.settingStored (s : State) (k : Setting) : State :=
  match k with
  | .beeperEnable => if s.settings.beeper then s else { s with monitor.burst := none }
  | .openTextSink =>
    (if s.settings.sink = .print then s else s.changePrintMarks fun r => { r with lds := 0 }).settle
  | .printMode => s.settle
  | _ => s

/-- CONFIGURE (R191, R60). -/
def configureCommand (setting : Byte) (value : BitVec 16) (s : State) : State × Response :=
  match settingArg setting with
  | none => refuse .badArg s
  | some k =>
    if k.isLine && s.sup.state ≠ .idle then refuse .lineBusy s
    else
      match k.permit value.toNat with
      | none => refuse .badArg s
      | some v =>
        answer (if v = value.toNat then .ok else .okClamped)
          ({ s with settings := s.settings.store k v }.settingStored k)

/-- READ SETTING (R192). -/
def readSettingCommand (setting : Byte) (s : State) : State × Response :=
  match settingArg setting with
  | none => refuse .badArg s
  | some k => (s, ⟨.ok, wordBytes (s.settings.value k)⟩)

/-- READ STATUS (R193). -/
def readStatusCommand (s : State) : State × Response := (s, ⟨.ok, s.status⟩)

/-! ## CONTROLLER RESET -/

/-- A slot through CONTROLLER RESET (R4). -/
def Slot.controllerReset (x : Slot) : Slot :=
  let aborted := x.isChainKind && (x.state = .queued || x.state = .active || x.state = .copying)
  { x with
    state := if aborted then .aborted else x.state
    outcome := if aborted then some .controllerReset else x.outcome
    hold := false
    job := .absent }

/-- The scanner through CONTROLLER RESET (R127): the attached flags are kept, and the scan cadence runs on (R110). -/
def Keyboard.controllerReset (k : Keyboard) : Keyboard :=
  { Keyboard.reset with attached := k.attached, scanTimer := k.scanTimer }

/-- The arbiter through CONTROLLER RESET (R129): the print entry count is kept. -/
def Arbiter.controllerReset (a : Arbiter) : Arbiter := { Arbiter.reset with issued := a.issued }

/-- The reset of the engine's stall reasons, measurements, P and paper state (R164). -/
def Engine.clearStalls (e : Engine) : Engine :=
  { e with previous := 0, supply := false, heat := false, paper := false, batteryJudged := false, headJudged := false,
           paperOutPending := false, paperTimer := none }

/-- The row engine stopped (R164): a step under way runs to its end, a held line is discarded at once. -/
def Engine.stop (e : Engine) : Engine :=
  match e.state with
  | .row | .blank => { e.clearStalls with stopRequested := true }
  | .held => e.clearStalls.enterIdle
  | .idle => e.clearStalls

/-- The monitor through CONTROLLER RESET (R166): V, Th, battery due, the timers and the blink clock are kept. -/
def Monitor.controllerReset (m : Monitor) : Monitor :=
  { m with batteryTaken := false, headTaken := false, supplyLow := false, burst := none }

/-- An event unit through CONTROLLER RESET (R174): masks and alert enables are kept. -/
def EventUnit.controllerReset (u : EventUnit) : EventUnit :=
  { EventUnit.reset with masks := u.masks, enables := u.enables }

/-- CONTROLLER RESET (R189): every block at the values of its own chapter. -/
def State.controllerReset (s : State) : State :=
  { s with
    slots := s.slots.map Slot.controllerReset
    modem := Modem.reset
    sup := Supervisor.reset
    parser := Parser.reset
    sched := Scheduler.reset
    kbd := s.kbd.controllerReset
    arb := s.arb.controllerReset
    engine := s.engine.stop
    monitor := s.monitor.controllerReset
    events := ⟨s.events.a.controllerReset, s.events.b.controllerReset⟩ }

def controllerResetCommand (s : State) : State × Response := answer .ok s.controllerReset

/-! ## Meanings -/

def execConfigure (p : Port) (setting : Byte) (value : BitVec 16) (s : State) : Host.Outcome State Fault Refusal :=
  .next (s.servePort p (configureCommand setting value))

def execReadSetting (p : Port) (setting : Byte) (s : State) : Host.Outcome State Fault Refusal :=
  .next (s.servePort p (readSettingCommand setting))

def execReadStatus (p : Port) (s : State) : Host.Outcome State Fault Refusal :=
  .next (s.servePort p readStatusCommand)

def execControllerReset (p : Port) (s : State) : Host.Outcome State Fault Refusal :=
  .next (s.servePort p controllerResetCommand)

end Sys2Proof.Machine
end

