-- ==== Sys2Proof/Machine/PrintCommands.lean ====
section
/-! DEFINITION. FEED, print status and the drain marks (sections 5.10, 7.7 to 7.9). -/

namespace Sys2Proof.Machine

open Sys2Proof

/-- FEED (R144). -/
def feedCommand (count : Byte) (s : State) : State × Response :=
  if count = 0 then refuse .badArg s
  else
    answer (if 9 < s.arb.feeds + count.toNat then .okClamped else .ok)
      { s with arb.feeds := min 9 (s.arb.feeds + count.toNat) }.settle

/-- READ PRINT STATUS (R147, R165). -/
def readPrintStatusCommand (s : State) : State × Response := (s, ⟨.ok, s.printStatus⟩)

/-- Whether the current unit is FEED or LIVE, so that it owes a line (R145). -/
def PrintUnit.owesLine : PrintUnit → Bool
  | .feed => true
  | .live _ _ => true
  | _ => false

/-- A line drain mark placed and tested (R107). -/
def State.placeLineMark (s : State) (p : Port) : State :=
  { s with sched.marks := s.sched.marks.set p (.pending s.sched.issued) }.testLineMark p

/-- The record of a print drain mark placed now (R145). -/
def State.markRecord (s : State) : MarkRecord :=
  ⟨s.arb.issued, if s.settings.sink = .print then s.parser.fifo.length else 0, s.arb.copyBuffer.length, s.arb.feeds,
    s.arb.unit.owesLine⟩

/-- A print drain mark placed and tested (R145, R146). -/
def State.placePrintMark (s : State) (p : Port) : State :=
  { s with arb.marks := s.arb.marks.set p (.pending s.markRecord) }.testPrintMark p

/-- DRAIN MARK (R107, R145). -/
def drainMarkCommand (p : Port) (path : Byte) (s : State) : State × Response :=
  match pathArg path with
  | none => refuse .badArg s
  | some .line => answer .ok (s.placeLineMark p)
  | some .print => answer .ok (s.placePrintMark p)

/-- READ DRAIN (R109). -/
def readDrainCommand (p : Port) (s : State) : State × Response := (s, ⟨.ok, [s.drainByte p]⟩)

/-! ## Meanings -/

def execFeed (p : Port) (count : Byte) (s : State) : Host.Outcome State Fault Refusal :=
  .next (s.servePort p (feedCommand count))

def execReadPrintStatus (p : Port) (s : State) : Host.Outcome State Fault Refusal :=
  .next (s.servePort p readPrintStatusCommand)

def execDrainMark (p : Port) (path : Byte) (s : State) : Host.Outcome State Fault Refusal :=
  .next (s.servePort p (drainMarkCommand p path))

def execReadDrain (p : Port) (s : State) : Host.Outcome State Fault Refusal :=
  .next (s.servePort p (readDrainCommand p))

end Sys2Proof.Machine
end

