-- ==== Sys2Proof/Machine/SlotCommands.lean ====
section
/-! DEFINITION. The slot commands (chapter 1, and WITHDRAW of sections 5.6 and 7.5): what each does at a port that
serves it, and its meaning. -/

namespace Sys2Proof.Machine

open Sys2Proof

/-! ## CLAIM and RELEASE -/

/-- A slot as CLAIM leaves it (R6). -/
def Slot.claimed (k : Kind) (p : Port) : Slot :=
  { Slot.unclaimed with
    kind := some k
    owner := some p
    state := .held
    priority := 4
    route := 0x41 }

/-- CLAIM(ANSWERBACK) (R7). -/
def claimAnswerback (p : Port) (s : State) : State × Response :=
  match (s.slot 0).owner with
  | some q => if q = p then (s, ⟨.ok, [0]⟩) else refuse .wrongState s
  | none =>
    if 16 ≤ s.owned p then refuse .quota s else (s.setSlot 0 { s.slot 0 with owner := some p }, ⟨.ok, [0]⟩)

/-- CLAIM of a general slot (R6). -/
def claimGeneral (p : Port) (k : Kind) (s : State) : State × Response :=
  if 16 ≤ s.owned p then refuse .quota s
  else
    match s.slotsWhere fun i x => i ≠ 0 && x.state = .free with
    | [] => refuse .noSlot s
    | i :: _ => (s.setSlot i (Slot.claimed k p), ⟨.ok, [byteOf i.val]⟩)

/-- CLAIM (R6, R7). -/
def claimCommand (p : Port) (kind : Byte) (s : State) : State × Response :=
  match kindArg kind with
  | none => refuse .badArg s
  | some .answerback => claimAnswerback p s
  | some k => claimGeneral p k s

/-- The members behind a slot released in an end state: those of its chain that follow it (R9). -/
def State.membersAfter (s : State) (i : SlotId) : List SlotId :=
  if (s.slot i).isChainKind && (s.slot i).state.isEnd then
    match (s.slot i).successor with
    | none => []
    | some j => (walkFrom s.slots 8 j).filter fun m => (s.slot m).chainHead = (s.slot i).chainHead
  else []

/-- A general slot freed (R8): links that name it are removed, and the members behind it become a chain of their own
(R9). The text bytes stand behind length 0 until the next claim (assumption 30). -/
def State.freeSlot (s : State) (i : SlotId) : State :=
  let after := s.membersAfter i
  let head := (s.slot i).successor
  s.mapSlots fun j x =>
    if j = i then { Slot.unclaimed with text := x.text }
    else
      { x with
        successor := if x.successor = some i then none else x.successor
        chainHead := if after.contains j then head else x.chainHead }

/-- RELEASE (R8 to R10). -/
def releaseCommand (p : Port) (slot : Byte) (s : State) : State × Response :=
  onSlot s p slot false fun i =>
    if i = 0 then answer .ok (s.setSlot 0 { s.slot 0 with owner := none })
    else
      match (s.slot i).state with
      | .held | .armed | .pending | .done | .aborted | .failed =>
        match (s.slot i).job with
        | .printing => refuse .busy s
        | .waiting => answer .ok ((s.freeSlot i).dropJob .auto i)
        | .absent => answer .ok (s.freeSlot i)
      | _ => refuse .wrongState s

/-! ## Attributes and text -/

/-- The arguments of SET ATTRIBUTES once checked. -/
structure Attributes where
  priority : Nat
  successor : Option SlotId
  framing : Framing
  route : Byte
  cls : RecordClass
  flags : Byte
  deriving DecidableEq, Repr

/-- The successor argument checked (R11): none, or a slot from 1 to 23 that is not FREE. -/
def State.successorOk (s : State) (b : Byte) : Option (Option SlotId) :=
  match successorArg b with
  | some (some i) => if (s.slot i).state = .free then none else some (some i)
  | r => r

/-- The route argument checked for a slot's kind (R11): ANY for RECEIVE alone. -/
def routeOk (k : Option Kind) (b : Byte) : Bool := isRouteCode b || (k = some .receive && b = routeAny)

/-- The arguments of SET ATTRIBUTES checked for a slot (R11, assumption 15). -/
def State.attributeArgs (s : State) (i : SlotId) (priority successor framing route cls flags : Byte) :
    Option Attributes :=
  match s.successorOk successor, framingArg framing, classArg cls with
  | some n, some f, some k =>
    if routeOk (s.slot i).kind route && flags.toNat < 8 then some ⟨min 7 priority.toNat, n, f, route, k, flags⟩
    else none
  | _, _, _ => none

/-- The attributes stored in a slot, those alone that its kind holds (R1, R11). -/
def Slot.withAttributes (x : Slot) (t : Attributes) : Slot :=
  match x.kind with
  | some .send =>
    { x with priority := t.priority, successor := t.successor, framing := t.framing, route := t.route, cls := t.cls,
             copy := t.flags.getLsbD 0 }
  | some .print => { x with priority := t.priority, successor := t.successor }
  | some .receive =>
    { x with priority := t.priority, route := t.route, protect := t.flags.getLsbD 1, autoprint := t.flags.getLsbD 2 }
  | _ => x

/-- SET ATTRIBUTES (R11). -/
def setAttributesCommand (p : Port) (slot priority successor framing route cls flags : Byte) (s : State) :
    State × Response :=
  onSlot s p slot false fun i =>
    match s.attributeArgs i priority successor framing route cls flags with
    | none => refuse .badArg s
    | some t =>
      if (s.slot i).state = .held then
        answer (if 7 < priority.toNat then .okClamped else .ok) (s.setSlot i ((s.slot i).withAttributes t))
      else refuse .wrongState s

/-- Whether a WRITE TEXT's or READ TEXT's offset and count are in range (R12, R13). -/
def textRange (offset count : Byte) : Bool := offset.toNat ≤ 79 && 1 ≤ count.toNat && count.toNat ≤ 32

/-- Bytes stored in a text area from an offset; those beyond position 79 are dropped (R12). -/
def storeText (old : Vector Byte 80) (offset count : Nat) (bytes : List Byte) : Vector Byte 80 :=
  Vector.ofFn fun i =>
    if offset ≤ i.val && i.val < offset + count then bytes.getD (i.val - offset) old[i] else old[i]

/-- A slot with text written (R12). -/
def Slot.written (x : Slot) (offset count : Nat) (ends : Bool) (bytes : List Byte) : Slot :=
  let e := min 80 (offset + count)
  { x with
    text := storeText x.text offset count bytes
    length := if ends then e else max x.length e }

/-- Whether a slot's state allows WRITE TEXT, or the refusal (R12). -/
def Slot.writable (x : Slot) : Option Result :=
  match x.state with
  | .standing => if x.hold then none else some .notHeld
  | .held => if x.isChainKind then none else some .wrongState
  | .queued => if x.hold then none else some .notHeld
  | .active | .copying => some .busy
  | _ => some .wrongState

/-- WRITE TEXT (R12). -/
def writeTextCommand (p : Port) (slot offset count endFlag : Byte) (bytes : List Byte) (s : State) :
    State × Response :=
  onSlot s p slot false fun i =>
    if !textRange offset count || 1 < endFlag.toNat then refuse .badArg s
    else
      match (s.slot i).writable with
      | some r => refuse r s
      | none =>
        answer (if 80 < offset.toNat + count.toNat then .okClamped else .ok)
          (s.setSlot i ((s.slot i).written offset.toNat count.toNat (endFlag = 1) bytes))

/-- READ TEXT (R13). -/
def readTextCommand (p : Port) (slot offset count : Byte) (s : State) : State × Response :=
  onSlot s p slot true fun i =>
    if !textRange offset count then refuse .badArg s
    else
      let n := min count.toNat ((s.slot i).length - offset.toNat)
      (s, ⟨.ok, byteOf n :: ((s.slot i).text.toList.drop offset.toNat).take n⟩)

/-- READ FLAWS (R14). -/
def readFlawsCommand (p : Port) (slot : Byte) (s : State) : State × Response :=
  onSlot s p slot false fun i => (s, ⟨.ok, slotFlawMap (s.slot i)⟩)

/-- READ SLOT INFO (R15). -/
def readSlotInfoCommand (p : Port) (slot : Byte) (s : State) : State × Response :=
  onSlot s p slot true fun i => (s, ⟨.ok, slotInfo i (s.slot i)⟩)

/-! ## Chains -/

/-- Whether the walk from a head finds a chain (R16, R18): at most 8 members, none repeated, each passing the test. -/
def State.chainFound (s : State) (i : SlotId) (test : Slot → Bool) : Bool :=
  let l := walkFrom s.slots 9 i
  l.length ≤ 8 && l.Nodup && l.all fun m => test (s.slot m)

/-- A chain made QUEUED and entered in its queue (R16, R18). -/
def State.enterQueued (s : State) (i : SlotId) : State :=
  let members := s.members i
  let s' := s.mapSlots fun j x =>
    if members.contains j then
      { x with state := .queued, chainHead := some i, attempts := 0, hold := false, outcome := none }
    else x
  if (s.slot i).kind = some .send then s'.enterSendQueue i else s'.enterPrintQueue .print i

/-- POST (R16). -/
def postCommand (p : Port) (slot : Byte) (s : State) : State × Response :=
  onSlot s p slot false fun i =>
    let x := s.slot i
    if !x.isChainKind then refuse .wrongState s
    else if s.chainFound i fun y => y.state = .held && y.kind = x.kind && y.owner = x.owner then
      answer .ok (s.settleAfter (s.enterQueued i))
    else refuse .badChain s

/-- REPOST (R18). -/
def repostCommand (p : Port) (slot : Byte) (s : State) : State × Response :=
  onSlot s p slot false fun i =>
    let x := s.slot i
    if !x.isChainKind || !x.state.isEnd || x.chainHead ≠ some i then refuse .wrongState s
    else if s.chainFound i fun y =>
        y.state = x.state && y.chainHead = some i && y.kind = x.kind && y.owner = x.owner then
      answer .ok (s.settleAfter (s.enterQueued i))
    else refuse .badChain s

/-- EDIT (R19). -/
def editCommand (p : Port) (slot : Byte) (s : State) : State × Response :=
  onSlot s p slot false fun i =>
    let x := s.slot i
    if x.isChainKind && x.state.isEnd && x.chainHead = some i then
      answer .ok (s.mapChain i fun y => { y with state := .held, outcome := none, chainHead := none })
    else if x.kind = some .receive && x.state = .armed then answer .ok (s.setSlot i { x with state := .held })
    else refuse .wrongState s

/-! ## Hold -/

/-- The refusal of HOLD and UNHOLD by a slot's state, or none where the flag may be changed (R20, R21). -/
def Slot.holdRefusal (x : Slot) : Option Result :=
  match x.state with
  | .standing => none
  | .queued => none
  | .active | .copying => some .busy
  | _ => some .wrongState

/-- HOLD (R20). -/
def holdCommand (p : Port) (slot : Byte) (s : State) : State × Response :=
  onSlot s p slot false fun i =>
    match (s.slot i).holdRefusal with
    | some r => refuse r s
    | none => answer .ok (s.setSlot i { s.slot i with hold := true })

/-- Slot 0's hold cleared (R94): a waiting answerback turn begins. -/
def State.unholdAnswerback (s : State) : State :=
  match s.sched.holdWait with
  | some ⟨.answerback, _⟩ =>
    (s.beginAnswerback (match s.sched.turn with
      | .chain ct => some ct
      | _ => none)).settleTurn
  | _ => s

/-- The last held member of a send chain cleared (R92): a chain waited on is started. -/
def State.unholdSend (s : State) (h : SlotId) : State :=
  match s.sched.holdWait with
  | some ⟨.chain w, _⟩ =>
    if w = h then
      match s.sched.sendQueue.find? fun q => q.head = h with
      | some q => s.settleAfter (s.beginChain q)
      | none => s
    else s
  | _ => s

/-- The last held member of a print chain cleared (R135): the timer of a wait on it stops, and the chain is asked to
start, now or at the next selection point. -/
def State.unholdPrint (s : State) (h : SlotId) : State :=
  match s.arb.holdWait with
  | some w => if w.head = h then { s with arb.holdWait := some ⟨h, none⟩ }.settle else s
  | none => s

/-- A path told of the last held member of a chain (R21). -/
def State.tellPath (s : State) (x : Slot) : State :=
  match x.chainHead with
  | none => s
  | some h => if s.chainHeld h then s else if x.kind = some .send then s.unholdSend h else s.unholdPrint h

/-- UNHOLD (R21). -/
def unholdCommand (p : Port) (slot : Byte) (s : State) : State × Response :=
  onSlot s p slot false fun i =>
    match (s.slot i).holdRefusal with
    | some r => refuse r s
    | none =>
      let s' := s.setSlot i { s.slot i with hold := false }
      answer .ok (if i = 0 then s'.unholdAnswerback else s'.tellPath (s.slot i))

/-! ## WITHDRAW -/

/-- WITHDRAW of a SEND head in QUEUED (R100). -/
def State.withdrawQueuedSend (s : State) (h : SlotId) : State :=
  let s' := s.chainRequest h .send [.queued] .aborted (some .withdrawn)
  let s' := { s' with
    sched.sendQueue := s'.sched.sendQueue.filter fun q => q.head ≠ h
    sched.holdWait := match s'.sched.holdWait with
      | some ⟨.chain w, t⟩ => if w = h then none else some ⟨.chain w, t⟩
      | w => w }
  s'.leaveLine h

/-- WITHDRAW of a SEND head in ACTIVE (R101). -/
def State.withdrawActiveSend (s : State) (h : SlotId) : State :=
  match s.replyWait with
  | some ct => if ct.head = h then s.withdrawActive h else s
  | none => { s with sched.withdrawalPending := true }

/-- WITHDRAW of a PRINT head in QUEUED (R138). -/
def State.withdrawQueuedPrint (s : State) (h : SlotId) : State :=
  let s' := (s.chainRequest h .print [.queued] .aborted (some .withdrawn)).dropJob .print h
  { s' with arb.holdWait := match s'.arb.holdWait with
      | some w => if w.head = h then none else some w
      | none => none }

/-- Whether a job is in the print queue. -/
def State.jobQueued (s : State) (k : JobKind) (i : SlotId) : Bool :=
  s.arb.queue.any fun j => j.kind = k && j.slot = i

/-- WITHDRAW of a SEND head in COPYING (R139). -/
def State.withdrawCopy (s : State) (h : SlotId) : State :=
  if s.jobQueued .copy h then (s.chainRequest h .send [.copying] .done (some .copyCut)).dropJob .copy h
  else { s with arb.withdrawalPending := true }

/-- WITHDRAW (R100, R101, R138, R139). -/
def withdrawCommand (p : Port) (slot : Byte) (s : State) : State × Response :=
  onSlot s p slot false fun i =>
    let x := s.slot i
    if !x.isChainKind then refuse .wrongState s
    else if x.state = .held then refuse .notPosted s
    else if x.chainHead ≠ some i then refuse .wrongState s
    else
      match x.state, x.kind with
      | .queued, some .send => answer .ok (s.settleAfter (s.withdrawQueuedSend i))
      | .active, some .send => answer .ok (s.settleAfter (s.withdrawActiveSend i))
      | .copying, _ => answer .ok (s.withdrawCopy i)
      | .queued, _ => answer .ok (s.withdrawQueuedPrint i).settle
      | .active, _ => answer .ok { s with arb.withdrawalPending := true }
      | _, _ => refuse .notPosted s

/-! ## ARM -/

/-- A RECEIVE slot opened for filing, its record lost (R22). -/
def Slot.opened (x : Slot) : Slot :=
  { x with state := .armed, length := 0, flaws := 0, record := none, job := .absent }

/-- ARM (R22). -/
def armCommand (p : Port) (slot : Byte) (s : State) : State × Response :=
  onSlot s p slot false fun i =>
    let x := s.slot i
    if x.kind ≠ some .receive then refuse .wrongState s
    else
      match x.state with
      | .held => answer .ok (s.setSlot i { x with state := .armed })
      | .pending =>
        match x.job with
        | .printing => refuse .busy s
        | .waiting => answer .ok ((s.setSlot i x.opened).dropJob .auto i)
        | .absent => answer .ok (s.setSlot i x.opened)
      | _ => refuse .wrongState s

/-! ## Meanings -/

def execClaim (p : Port) (kind : Byte) (s : State) : Host.Outcome State Fault Refusal :=
  .next (s.servePort p (claimCommand p kind))

def execRelease (p : Port) (slot : Byte) (s : State) : Host.Outcome State Fault Refusal :=
  .next (s.servePort p (releaseCommand p slot))

def execSetAttributes (p : Port) (slot priority successor framing route cls flags : Byte) (s : State) :
    Host.Outcome State Fault Refusal :=
  .next (s.servePort p (setAttributesCommand p slot priority successor framing route cls flags))

def execWriteText (p : Port) (slot offset count endFlag : Byte) (bytes : List Byte) (s : State) :
    Host.Outcome State Fault Refusal :=
  .next (s.servePort p (writeTextCommand p slot offset count endFlag bytes))

def execReadText (p : Port) (slot offset count : Byte) (s : State) : Host.Outcome State Fault Refusal :=
  .next (s.servePort p (readTextCommand p slot offset count))

def execReadFlaws (p : Port) (slot : Byte) (s : State) : Host.Outcome State Fault Refusal :=
  .next (s.servePort p (readFlawsCommand p slot))

def execReadSlotInfo (p : Port) (slot : Byte) (s : State) : Host.Outcome State Fault Refusal :=
  .next (s.servePort p (readSlotInfoCommand p slot))

def execHold (p : Port) (slot : Byte) (s : State) : Host.Outcome State Fault Refusal :=
  .next (s.servePort p (holdCommand p slot))

def execUnhold (p : Port) (slot : Byte) (s : State) : Host.Outcome State Fault Refusal :=
  .next (s.servePort p (unholdCommand p slot))

def execPost (p : Port) (slot : Byte) (s : State) : Host.Outcome State Fault Refusal :=
  .next (s.servePort p (postCommand p slot))

def execRepost (p : Port) (slot : Byte) (s : State) : Host.Outcome State Fault Refusal :=
  .next (s.servePort p (repostCommand p slot))

def execEdit (p : Port) (slot : Byte) (s : State) : Host.Outcome State Fault Refusal :=
  .next (s.servePort p (editCommand p slot))

def execWithdraw (p : Port) (slot : Byte) (s : State) : Host.Outcome State Fault Refusal :=
  .next (s.servePort p (withdrawCommand p slot))

def execArm (p : Port) (slot : Byte) (s : State) : Host.Outcome State Fault Refusal :=
  .next (s.servePort p (armCommand p slot))

end Sys2Proof.Machine
end

