-- ==== Sys2Proof/Machine/PortEvents.lean ====
section
/-! DEFINITION. The transactions of the ports themselves (sections 11.2 to 11.4): short and unknown selects, the end of
a write, reads, stalls, and the RESET pin. -/

namespace Sys2Proof.Machine

open Sys2Proof

/-- What a command of the command table does at a port that serves it (R190). -/
def runCommand (c : PortCommand) (p : Port) : State → State × Response :=
  match c with
  | .claim k => claimCommand p k
  | .release i => releaseCommand p i
  | .setAttributes i pr n f r k b => setAttributesCommand p i pr n f r k b
  | .writeText i o n e bytes => writeTextCommand p i o n e bytes
  | .readText i o n => readTextCommand p i o n
  | .readFlaws i => readFlawsCommand p i
  | .readSlotInfo i => readSlotInfoCommand p i
  | .hold i => holdCommand p i
  | .unhold i => unholdCommand p i
  | .post i => postCommand p i
  | .repost i => repostCommand p i
  | .edit i => editCommand p i
  | .withdraw i => withdrawCommand p i
  | .arm i => armCommand p i
  | .connect m => connectCommand m
  | .hangUp m => hangUpCommand m
  | .lineReset => lineResetCommand
  | .sendBreak => breakCommand
  | .readLineStatus => readLineStatusCommand
  | .clearCounters => clearCountersCommand
  | .readOpenText n => readOpenTextCommand p n
  | .takeFocus => takeFocusCommand p
  | .giveFocus => giveFocusCommand p
  | .readKeys n => readKeysCommand p n
  | .feed n => feedCommand n
  | .readPrintStatus => readPrintStatusCommand
  | .drainMark x => drainMarkCommand p x
  | .readDrain => readDrainCommand p
  | .readEvent => readEventCommand p
  | .ackEvent n => ackEventCommand p n
  | .setEventMask m => setEventMaskCommand p m
  | .setAlertEnables m => setAlertEnablesCommand p m
  | .readAlerts => readAlertsCommand p
  | .configure k v => configureCommand k v
  | .readSetting k => readSettingCommand k
  | .readStatus => readStatusCommand
  | .controllerReset => controllerResetCommand

/-! ## Port A -/

/-- Port A's select over: none is under way (R183, R188). -/
def State.endSelect (s : State) : State := { s with portA := .none }

/-- A select that ends before its last argument byte (R183): SHORT with the command code, and nothing with fewer than
eight clocks of the command byte. -/
def State.shortSelect (s : State) (cmd : Option Byte) : State :=
  match cmd with
  | none => s
  | some b => s.raise .a (.port .short (some b))

/-- PORT_A_SELECT_SHORT (R183). -/
def execPortASelectShort (cmd : Option Byte) (s : State) : Host.Outcome State Fault Refusal :=
  .next (if s.portServes .a then (s.shortSelect cmd).endSelect
    else if s.power = .held then s
    else s.endSelect)

/-- An unknown command byte on port A (R184). -/
def State.unknownSelect (s : State) (cmd : Byte) : State :=
  (s.raise .a (.port .unknown (some cmd))).respond .a ⟨.unknown, []⟩

/-- PORT_A_UNKNOWN_COMMAND (R184); no effect for a byte of the command table, which is not unknown (assumption 5). -/
def execPortAUnknownCommand (cmd : Byte) (s : State) : Host.Outcome State Fault Refusal :=
  .next (if knownCommand cmd then s
    else if s.portServes .a then s.unknownSelect cmd
    else s.ignoreTransaction .a)

/-- PORT_A_SELECT_END (R183, R188). -/
def execPortASelectEnd (s : State) : Host.Outcome State Fault Refusal :=
  .next (if s.power = .held then s else s.endSelect)

/-- Byte `i` that SDO sends in a select, counted from CSN falling, of which the first `taken` bytes carry the command
and its arguments; `selected` is CSN low. None is high impedance, with CSN high (section 11.1) or RESETN held low
(R188). The bytes taken in go with 0xFF, then come the result code and the response data, then 0xFF again (R183); an
unknown command is answered behind its one byte (R184), and a select ignored after the RESET pin sends 0xFF throughout
(R188). -/
def State.sdo (s : State) (selected : Bool) (taken i : Nat) : Option Byte :=
  if s.power = .held || !selected then none
  else
    match s.portA with
    | .answered r => some (if i < taken then 0xFF else r.getD (i - taken) 0xFF)
    | .none => some 0xFF
    | .ignored => some 0xFF

/-! ## Port B -/

/-- The end of a write of port B (R185). -/
def State.endWrite (s : State) (bytes : List Byte) : State :=
  match parseCommand bytes with
  | .nothing => s
  | .short cmd => s.raise .b (.port .short (some cmd))
  | .unknown cmd => (s.raise .b (.port .unknown (some cmd))).respond .b ⟨.unknown, []⟩
  | .command c => s.execute .b (runCommand c .b)

/-- PORT_B_WRITE_END (R185), of a write to an address: one that port B did not acknowledge has no effect. -/
def execPortBWriteEnd (write : BusWrite) (s : State) : Host.Outcome State Fault Refusal :=
  .next (if s.acknowledges write.address then s.endWrite write.bytes else s)

/-- What a read at an address returns, `n` bytes of it (R186): the last response, then 0xFF. At an address that port B
does not acknowledge SDA is left released, which reads as ones (R185, R188). -/
def State.readB (s : State) (address : BitVec 7) (n : Nat) : List Byte :=
  (List.range n).map fun i => if s.acknowledges address then s.lastB.getD i 0xFF else 0xFF

/-- PORT_B_READ (R186): a read executes nothing and changes nothing; `State.readB` is what it returns. -/
def execPortBRead (s : State) : Host.Outcome State Fault Refusal := .next s

/-- PORT_B_TIMEOUT (R187). -/
def execPortBTimeout (cmd : Option Byte) (s : State) : Host.Outcome State Fault Refusal :=
  .next (if s.portServes .b then s.raise .b (.port .timeout cmd) else s)

/-! ## The RESET pin -/

/-- The row engine while RESETN is held (R149, R164): a step under way runs to its end; the motor phase index, the step
counter and the last row record stand until the release. -/
def Engine.resetnAsserted (e : Engine) : Engine :=
  let kept := { Engine.reset with
    sampleTimer := none, phaseIndex := e.phaseIndex, stepCounter := e.stepCounter, record := e.record }
  match e.state with
  | .row | .blank =>
    { kept with
      state := e.state, line := e.line, step := e.step, stopRequested := true, firing := e.firing, latch := e.latch,
      strobes := e.strobes, stepTimer := e.stepTimer, groupTimer := e.groupTimer }
  | .held | .idle => kept

/-- The state while RESETN is held low (R188): every block at its values for the RESET pin, its timers stopped. The
level of the ADDR pin, which the board ties, and the model's own queue and count, which are not the part's (assumptions
33 and 40), are kept. -/
def State.resetnAsserted (s : State) : State :=
  { State.reset with
    kbd := { Keyboard.reset with scanTimer := none }
    engine := s.engine.resetnAsserted
    monitor := { Monitor.reset with batteryTimer := none, headTimer := none, blinkTimer := none }
    addrHigh := s.addrHigh
    power := .held
    startups := s.startups
    pending := s.pending }

/-- RESETN_ASSERTED (R188). -/
def execResetnAsserted (s : State) : Host.Outcome State Fault Refusal := .next s.resetnAsserted

/-- The release of RESETN (R188): the cadences start, the motor values and the last row record become 0 (R164), and the
2 ms begin. -/
def State.resetnReleased (s : State) : State :=
  { s with
    kbd := { s.kbd with scanTimer := Keyboard.reset.scanTimer }
    engine := { s.engine with
      sampleTimer := Engine.reset.sampleTimer, phaseIndex := 0, stepCounter := 0, record := Engine.reset.record }
    monitor := { s.monitor with
      batteryTimer := Monitor.reset.batteryTimer, headTimer := Monitor.reset.headTimer,
      blinkTimer := Monitor.reset.blinkTimer }
    power := .ignoring
    startupTimer := some (ms 2) }

/-- RESETN_RELEASED (R188). -/
def execResetnReleased (s : State) : Host.Outcome State Fault Refusal :=
  .next (if s.power = .held then s.resetnReleased else s)

/-- The 2 ms over (R188): a select that began in them is ignored to its end. Whether one is under way that has not
brought its command byte yet no row tells: it is the free value `Config.selectAtStartup` (assumption 40). -/
def State.startupOver (s : State) : State :=
  { s with
    power := .serving
    startupTimer := none
    startups := s.startups + 1
    portA := if Config.selectAtStartup s.startups then .ignored else s.portA }

/-- STARTUP_IGNORE_END (R188). -/
def execStartupIgnoreEnd (s : State) : Host.Outcome State Fault Refusal :=
  .next (if s.power = .ignoring then s.startupOver else s)

end Sys2Proof.Machine
end

