-- ==== Sys2Proof/Machine/PrintEvents.lean ====
section
/-! DEFINITION. The events of the print side: the arbiter's timers, the firing of a row, the end of a step, and the
paper (chapters 7 and 8). An event that cannot happen in the state it finds changes nothing (assumption 5). -/

namespace Sys2Proof.Machine

open Sys2Proof

/-! ## Arbiter -/

/-- A live silence timer expired since the source's latest entry (R132). -/
def State.silenceOver (s : State) : LiveSource → State
  | .lds => { s with parser.silence := ⟨none, true⟩ }
  | .lcs => { s with arb.silence := ⟨none, true⟩ }

/-- The live silence timer of a source. -/
def State.silenceTimer (s : State) : LiveSource → Timer
  | .lds => s.parser.silence.timer
  | .lcs => s.arb.silence.timer

/-- LIVE_SILENCE_EXPIRED (R132). -/
def execLiveSilenceExpired (src : LiveSource) (s : State) : Host.Outcome State Fault Refusal :=
  .next (if (s.silenceTimer src).isSome then (s.silenceOver src).settle else s)

/-- A print hold wait given up (R136): its owner alerted and masked. -/
def State.giveUpPrint (s : State) (h : SlotId) : State :=
  let s' := { s with arb.holdWait := none }.alertOwner (s.slot h).owner .holdExpired
  match (s.slot h).owner with
  | none => s'
  | some p => { s' with arb.masks := s'.arb.masks.set p (some (ms s.settings.maskTime)) }

/-- PRINT_HOLD_TIMER_EXPIRED (R136). -/
def execPrintHoldTimerExpired (s : State) : Host.Outcome State Fault Refusal :=
  .next (match s.arb.holdWait with
    | some ⟨h, some _⟩ => (s.giveUpPrint h).settle
    | _ => s)

/-- PRINT_MASK_TIMER_EXPIRED (R136). -/
def execPrintMaskTimerExpired (p : Port) (s : State) : Host.Outcome State Fault Refusal :=
  .next (if (s.arb.masks.get p).isSome then { s with arb.masks := s.arb.masks.set p none }.settle else s)

/-! ## Firing -/

/-- A firing group begun (R157, R158): the row's full pattern latched, the group's strobes asserted. DESIGN CHOICE
(assumption 36): the pattern comes into the latch whole in the event; its shifting on HDAT with HCLK, whose order, rate
and moment the manual leaves open, is no state of the model. -/
def State.beginGroup (s : State) (f : Firing) : State :=
  { s with
    engine.firing := some { f with phase := .phase1 }
    engine.latch := f.row
    engine.strobes := f.groups.getD f.index 0
    engine.groupTimer := some f.ts }

/-- GROUP_BEGIN (R157). -/
def execGroupBegin (s : State) : Host.Outcome State Fault Refusal :=
  .next (match s.engine.firing with
    | some f => if f.phase = .gap then s.beginGroup f else s
    | none => s)

/-- Phase 2 of a group begun (R158): the new dots latched, whole in the event (DESIGN CHOICE, assumption 36). -/
def State.beginPhase2 (s : State) (f : Firing) : State :=
  { s with
    engine.firing := some { f with phase := .phase2 }
    engine.latch := f.fresh
    engine.groupTimer := some (f.td - f.ts) }

/-- GROUP_PHASE_2 (R158). -/
def execGroupPhase2 (s : State) : Host.Outcome State Fault Refusal :=
  .next (match s.engine.firing with
    | some f => if f.phase = .phase1 then s.beginPhase2 f else s
    | none => s)

/-- A group's strobes released at Td (R157, R158): the 50 µs gap before the next group, or the firing over and the
latch cleared. DESIGN CHOICE (assumption 43): R158 has the latch cleared before the motor step and no closer; the model
clears it in the event that releases the last group's strobes. -/
def State.releaseStrobes (s : State) (f : Firing) : State :=
  if f.index + 1 < f.groups.length then
    { s with engine.firing := some { f with index := f.index + 1, phase := .gap }, engine.strobes := 0,
             engine.groupTimer := some 50 }
  else
    { s with engine.firing := some { f with phase := .done }, engine.strobes := 0, engine.latch := 0,
             engine.groupTimer := none }

/-- A deferred battery measurement taken once no strobe is asserted (R167). -/
def State.takeDueBattery (s : State) (vbat : Nat) : State := if s.monitor.batteryDue then s.measureBattery vbat else s

/-- GROUP_STROBE_END (R158, R167). -/
def execGroupStrobeEnd (vbat : Nat) (s : State) : Host.Outcome State Fault Refusal :=
  .next (match s.engine.firing with
    | some f => if f.phase = .phase2 then (s.releaseStrobes f).takeDueBattery vbat else s
    | none => s)

/-! ## Steps -/

/-- The step that ends a line stopped by a reset (R164): the line is discarded, not reported. -/
def State.endStopped (s : State) : State :=
  { s with engine := { s.engine.motorStep.enterIdle with stopRequested := false } }.paperStall.settle

/-- The step that ends a line (R150, R162): the line is reported complete. -/
def State.endLine (s : State) : State :=
  ({ s with engine := s.engine.motorStep.enterIdle }.paperStall.lineComplete).settle

/-- A step's end before the line's last (R159): P is empty after a blank step (R151), and the next step begins. -/
def State.nextStep (s : State) : State :=
  let e := s.engine.motorStep
  let s' := { s with engine := { e with
    step := e.step + 1
    firing := none
    latch := 0
    strobes := 0
    previous := if e.state = EngineState.blank then 0 else e.previous } }
  if s'.engine.step < 12 then s'.checkRow else s'.beginBlank

/-- A step's end (R159, R164). -/
def State.endStep (s : State) : State :=
  if s.engine.stopRequested then s.endStopped
  else if s.engine.step < 15 then s.nextStep
  else { s with engine.previous := 0 }.endLine

/-- STEP_END (R159): of a step in ROW or BLANK (assumption 21). -/
def execStepEnd (s : State) : Host.Outcome State Fault Refusal :=
  .next (if s.engine.state = .row || s.engine.state = .blank then s.endStep else s)

/-! ## Paper -/

/-- A sample that reads OUT (R161). -/
def State.paperOut (s : State) : State :=
  let s' := { s with engine.lastPaperOut := true, engine.paperTimer := none }
  if s'.engine.paper then s'
  else if s'.engine.line.isNone then { s' with engine.paper := true }.alertBoth .paperOut
  else { s' with engine.paperOutPending := true }

/-- A sample that reads PRESENT (R161). -/
def State.paperPresent (s : State) : State :=
  let s' := { s with engine.lastPaperOut := false }
  if (s'.engine.paper || s'.engine.paperOutPending) && s'.engine.paperTimer.isNone then
    { s' with engine.paperTimer := some (seconds 1) }
  else s'

/-- PAPER_SAMPLE (R161): the next sample comes 10 ms later; none is taken while RESETN is held low (R164). -/
def execPaperSample (out : Bool) (s : State) : Host.Outcome State Fault Refusal :=
  .next (if s.power = .held then s
    else
      let s' := { s with engine.sampleTimer := Engine.reset.sampleTimer }
      if out then s'.paperOut else s'.paperPresent)

/-- The paper back for 1 s (R163). -/
def State.paperBack (s : State) : State :=
  { s with engine.paper := false, engine.paperOutPending := false, engine.paperTimer := none }.settle

/-- PAPER_PRESENT_EXPIRED (R163). -/
def execPaperPresentExpired (s : State) : Host.Outcome State Fault Refusal :=
  .next (if s.engine.paperTimer.isSome then s.paperBack else s)

end Sys2Proof.Machine
end

