-- ==== Sys2Proof/Machine/SupplyEvents.lean ====
section
/-! DEFINITION. The events of the supply monitor: the two measurements, the blink clock and the burst timer (chapter
9). None happens while RESETN is held low, when the monitor's timers are stopped (R166). -/

namespace Sys2Proof.Machine

open Sys2Proof

/-- A battery measurement made due (R167): taken at once with no strobe asserted, deferred otherwise. -/
def State.dueBattery (s : State) (vbat : Nat) : State :=
  if s.engine.strobes = 0 then s.measureBattery vbat else { s with monitor.batteryDue := true }

/-- BATTERY_TIMER_EXPIRED (R167): the next comes 10 ms later. -/
def execBatteryTimerExpired (vbat : Nat) (s : State) : Host.Outcome State Fault Refusal :=
  .next (if s.power = .held then s
    else { s with monitor.batteryTimer := Monitor.reset.batteryTimer }.dueBattery vbat)

/-- HEAD_TIMER_EXPIRED (R168): the next comes 100 ms later. -/
def execHeadTimerExpired (thm : Int) (s : State) : Host.Outcome State Fault Refusal :=
  .next (if s.power = .held then s
    else { s with monitor.headTimer := Monitor.reset.headTimer }.measureHead thm)

/-- BLINK_CLOCK_TOGGLE (R171): the next comes 250 ms later. -/
def execBlinkClockToggle (s : State) : Host.Outcome State Fault Refusal :=
  .next (if s.power = .held then s
    else { s with monitor.blinkLit := !s.monitor.blinkLit, monitor.blinkTimer := Monitor.reset.blinkTimer })

/-- BURST_TIMER_EXPIRED (R172). -/
def execBurstTimerExpired (s : State) : Host.Outcome State Fault Refusal := .next { s with monitor.burst := none }

end Sys2Proof.Machine
end

