-- ==== Sys2Proof/Machine/Dispatch.lean ====
section
/-! DEFINITION. The meaning of every command: one arm per constructor of `Instr`. -/

namespace Sys2Proof.Machine

open Sys2Proof

def exec (i : Instr) (s : State) : Host.Outcome State Fault Refusal :=
  match i with
  | .claim p kind => Sys2Proof.Machine.execClaim p kind s
  | .release p slot => Sys2Proof.Machine.execRelease p slot s
  | .setAttributes p slot priority successor framing route cls flags => Sys2Proof.Machine.execSetAttributes p slot priority successor framing route cls flags s
  | .writeText p slot offset count endFlag bytes => Sys2Proof.Machine.execWriteText p slot offset count endFlag bytes s
  | .readText p slot offset count => Sys2Proof.Machine.execReadText p slot offset count s
  | .readFlaws p slot => Sys2Proof.Machine.execReadFlaws p slot s
  | .readSlotInfo p slot => Sys2Proof.Machine.execReadSlotInfo p slot s
  | .hold p slot => Sys2Proof.Machine.execHold p slot s
  | .unhold p slot => Sys2Proof.Machine.execUnhold p slot s
  | .post p slot => Sys2Proof.Machine.execPost p slot s
  | .repost p slot => Sys2Proof.Machine.execRepost p slot s
  | .edit p slot => Sys2Proof.Machine.execEdit p slot s
  | .withdraw p slot => Sys2Proof.Machine.execWithdraw p slot s
  | .arm p slot => Sys2Proof.Machine.execArm p slot s
  | .connect p mode => Sys2Proof.Machine.execConnect p mode s
  | .hangUp p manner => Sys2Proof.Machine.execHangUp p manner s
  | .lineReset p => Sys2Proof.Machine.execLineReset p s
  | .sendBreak p => Sys2Proof.Machine.execSendBreak p s
  | .readLineStatus p => Sys2Proof.Machine.execReadLineStatus p s
  | .clearCounters p => Sys2Proof.Machine.execClearCounters p s
  | .readOpenText p count => Sys2Proof.Machine.execReadOpenText p count s
  | .takeFocus p => Sys2Proof.Machine.execTakeFocus p s
  | .giveFocus p => Sys2Proof.Machine.execGiveFocus p s
  | .readKeys p count => Sys2Proof.Machine.execReadKeys p count s
  | .feed p count => Sys2Proof.Machine.execFeed p count s
  | .readPrintStatus p => Sys2Proof.Machine.execReadPrintStatus p s
  | .drainMark p path => Sys2Proof.Machine.execDrainMark p path s
  | .readDrain p => Sys2Proof.Machine.execReadDrain p s
  | .readEvent p => Sys2Proof.Machine.execReadEvent p s
  | .ackEvent p source => Sys2Proof.Machine.execAckEvent p source s
  | .setEventMask p masks => Sys2Proof.Machine.execSetEventMask p masks s
  | .setAlertEnables p enables => Sys2Proof.Machine.execSetAlertEnables p enables s
  | .readAlerts p => Sys2Proof.Machine.execReadAlerts p s
  | .configure p setting value => Sys2Proof.Machine.execConfigure p setting value s
  | .readSetting p setting => Sys2Proof.Machine.execReadSetting p setting s
  | .readStatus p => Sys2Proof.Machine.execReadStatus p s
  | .controllerReset p => Sys2Proof.Machine.execControllerReset p s
  | .portASelectShort cmd => Sys2Proof.Machine.execPortASelectShort cmd s
  | .portAUnknownCommand cmd => Sys2Proof.Machine.execPortAUnknownCommand cmd s
  | .portBWriteEnd write => Sys2Proof.Machine.execPortBWriteEnd write s
  | .portBRead => Sys2Proof.Machine.execPortBRead s
  | .portBTimeout cmd => Sys2Proof.Machine.execPortBTimeout cmd s
  | .resetnAsserted => Sys2Proof.Machine.execResetnAsserted s
  | .resetnReleased => Sys2Proof.Machine.execResetnReleased s
  | .startupIgnoreEnd => Sys2Proof.Machine.execStartupIgnoreEnd s
  | .characterComplete => Sys2Proof.Machine.execCharacterComplete s
  | .breakComplete => Sys2Proof.Machine.execBreakComplete s
  | .zeroCrossing ticks => Sys2Proof.Machine.execZeroCrossing ticks s
  | .crossingCounter4095 => Sys2Proof.Machine.execCrossingCounter4095 s
  | .qualifyRunExpired => Sys2Proof.Machine.execQualifyRunExpired s
  | .silenceTimerExpired => Sys2Proof.Machine.execSilenceTimerExpired s
  | .requalifyTimerExpired => Sys2Proof.Machine.execRequalifyTimerExpired s
  | .fadeTimerExpired => Sys2Proof.Machine.execFadeTimerExpired s
  | .characterReceived b parityFault stopSpace => Sys2Proof.Machine.execCharacterReceived b parityFault stopSpace s
  | .breakReceived => Sys2Proof.Machine.execBreakReceived s
  | .breakEnd => Sys2Proof.Machine.execBreakEnd s
  | .connectTimerExpired => Sys2Proof.Machine.execConnectTimerExpired s
  | .clearingTimerExpired => Sys2Proof.Machine.execClearingTimerExpired s
  | .replyTimerExpired => Sys2Proof.Machine.execReplyTimerExpired s
  | .sendHoldTimerExpired => Sys2Proof.Machine.execSendHoldTimerExpired s
  | .answerbackHoldExpired => Sys2Proof.Machine.execAnswerbackHoldExpired s
  | .sendMaskTimerExpired p => Sys2Proof.Machine.execSendMaskTimerExpired p s
  | .flowLimitTimerExpired => Sys2Proof.Machine.execFlowLimitTimerExpired s
  | .scan down => Sys2Proof.Machine.execScan down s
  | .repeatTimerExpired => Sys2Proof.Machine.execRepeatTimerExpired s
  | .liveSilenceExpired source => Sys2Proof.Machine.execLiveSilenceExpired source s
  | .printHoldTimerExpired => Sys2Proof.Machine.execPrintHoldTimerExpired s
  | .printMaskTimerExpired p => Sys2Proof.Machine.execPrintMaskTimerExpired p s
  | .groupBegin => Sys2Proof.Machine.execGroupBegin s
  | .groupPhase2 => Sys2Proof.Machine.execGroupPhase2 s
  | .groupStrobeEnd vbat => Sys2Proof.Machine.execGroupStrobeEnd vbat s
  | .stepEnd => Sys2Proof.Machine.execStepEnd s
  | .paperSample out => Sys2Proof.Machine.execPaperSample out s
  | .paperPresentExpired => Sys2Proof.Machine.execPaperPresentExpired s
  | .batteryTimerExpired vbat => Sys2Proof.Machine.execBatteryTimerExpired vbat s
  | .headTimerExpired thm => Sys2Proof.Machine.execHeadTimerExpired thm s
  | .blinkClockToggle => Sys2Proof.Machine.execBlinkClockToggle s
  | .burstTimerExpired => Sys2Proof.Machine.execBurstTimerExpired s
  | .bitSamplerSample => Sys2Proof.Machine.execBitSamplerSample s
  | .portASelectEnd => Sys2Proof.Machine.execPortASelectEnd s

end Sys2Proof.Machine
end

