-- ==== Sys2Proof/Machine/Tick.lean ====
section
/-! DEFINITION. One 1-µs tick of the part's clock, which is what a step does when no command waits (assumption 28):
the timers run down, the demodulator's counter rises, the modulator's phase advances. What happens at an expiry is the
expiry's own command (assumption 2). -/

namespace Sys2Proof.Machine

open Sys2Proof

/-- A timer one µs on: a running timer stands at 0 until its expiry is taken. -/
def tickTimer (t : Timer) : Timer := t.map (· - 1)

/-- A modulator one µs on, `sample` the quarter of the tick at which a sample falls: a frame has lasted one tick more;
the 250 ms of a break run from its first sample (R31). -/
def Modulator.tick (sample : Option Nat) : Modulator → Modulator
  | .character frame elapsed => .character frame (elapsed + 1)
  | .breaking none => .breaking (sample.map fun q => breakQuarters - (4 - q))
  | .breaking (some left) => .breaking (some (left - 4))
  | m => m

/-- The modulator one µs on (R28 to R32): a sample adds the increment of the level sent at it, or takes a carrier-off
request. -/
def Modem.tickModulator (m : Modem) (speed : Nat) : Modem :=
  match m.sampleAt with
  | none =>
    { m with
      modulator := m.modulator.tick none
      sampleClock := if m.modulator = .off then 0 else m.sampleClock + 4 }
  | some q =>
    if m.offDue then m.enterOff
    else
      { m with
        modulator := m.modulator.tick (some q)
        sampleClock := m.sampleClock + 4 - 125
        phase := m.phase + increment (transmitHigh m.mode) (m.modulator.levelAt speed q) }

/-- The line modem one µs on (R28, R33). -/
def Modem.tick (m : Modem) (speed : Nat) : Modem :=
  { m.tickModulator speed with
    crossing := min 4095 (m.crossing + 1)
    qualifyTimer := tickTimer m.qualifyTimer
    silenceTimer := tickTimer m.silenceTimer
    requalifyTimer := tickTimer m.requalifyTimer
    fadeTimer := tickTimer m.fadeTimer }

def Supervisor.tick (x : Supervisor) : Supervisor :=
  { x with connectTimer := tickTimer x.connectTimer, clearingTimer := tickTimer x.clearingTimer }

def Silence.tick (x : Silence) : Silence := { x with timer := tickTimer x.timer }

def Parser.tick (x : Parser) : Parser := { x with silence := x.silence.tick }

/-- Both ports' mask timers one µs on. -/
def tickMasks (m : PerPort Timer) : PerPort Timer := ⟨tickTimer m.a, tickTimer m.b⟩

def Scheduler.tick (x : Scheduler) : Scheduler :=
  { x with
    holdWait := x.holdWait.map fun w => { w with timer := tickTimer w.timer }
    replyTimer := tickTimer x.replyTimer
    flowTimer := tickTimer x.flowTimer
    masks := tickMasks x.masks }

def Keyboard.tick (x : Keyboard) : Keyboard :=
  { x with repeatTimer := tickTimer x.repeatTimer, scanTimer := tickTimer x.scanTimer }

def Arbiter.tick (x : Arbiter) : Arbiter :=
  { x with
    silence := x.silence.tick
    holdWait := x.holdWait.map fun w => { w with timer := tickTimer w.timer }
    masks := tickMasks x.masks }

def Engine.tick (x : Engine) : Engine :=
  { x with
    paperTimer := tickTimer x.paperTimer
    sampleTimer := tickTimer x.sampleTimer
    stepTimer := tickTimer x.stepTimer
    groupTimer := tickTimer x.groupTimer }

def Monitor.tick (x : Monitor) : Monitor :=
  { x with
    burst := tickTimer x.burst
    batteryTimer := tickTimer x.batteryTimer
    headTimer := tickTimer x.headTimer
    blinkTimer := tickTimer x.blinkTimer }

/-- The demodulator's examination of its input at the end of a tick (R33, R46): in LOOP a modulator sample that
changed sign in the tick is a zero crossing, recorded with the counter's value; with the carrier turned off the input
holds at rest and nothing crosses. `before` is the modem before the tick; the microphone's crossings are the command
ZERO_CROSSING. -/
def State.loopCrossing (before : Modem) (s : State) : State :=
  if demodInput s.modem.mode = .modulator && s.modem.modulator ≠ .off && s.modem.sampleSign ≠ before.sampleSign then
    s.recordHalfPeriod s.modem.crossing
  else s

/-- The part one µs on. While RESETN is held low every timer is stopped but those of a step that runs to its end
(R164, R188). -/
def State.tick (s : State) : State :=
  if s.power = .held then { s with engine := s.engine.tick }
  else
    State.loopCrossing s.modem { s with
      modem := s.modem.tick s.settings.lineSpeed
      sup := s.sup.tick
      parser := s.parser.tick
      sched := s.sched.tick
      kbd := s.kbd.tick
      arb := s.arb.tick
      engine := s.engine.tick
      monitor := s.monitor.tick
      startupTimer := tickTimer s.startupTimer }

end Sys2Proof.Machine
end

