-- ==== Sys2Proof/WellFormed.lean ====
section
/-! DEFINITION. Which terms of `Instr` stand for a command that can reach the part. -/

namespace Sys2Proof

/-- WRITE TEXT carries count bytes of text, and none when the count is not 1 to 32 (R183). -/
def textLengthFits (count : Byte) (bytes : List Byte) : Bool :=
  bytes.length = if 1 ≤ count.toNat ∧ count.toNat ≤ 32 then count.toNat else 0

/-- A port command whose byte string can be received (R183). -/
def PortCommand.wellFormed : PortCommand → Bool
  | .writeText _ _ count _ bytes => textLengthFits count bytes
  | _ => true

/-- Whether a command of the table is short when a select ends behind its command byte (R183). -/
def takesArguments (cmd : Byte) : Bool :=
  match parseCommand [cmd] with
  | .short _ => true
  | _ => false

/-- Well-formedness of a command: the text of WRITE TEXT has its length (R183), a short select names a command with
arguments (R183), an unknown command byte is none of the table's (R184), and a half-period has at most 4095 ticks
(R33). Every other operand takes any value of its type. -/
def Instr.wellFormed : Instr → Bool
  | .writeText _ _ _ count _ bytes => textLengthFits count bytes
  | .portASelectShort (some cmd) => takesArguments cmd
  | .portAUnknownCommand cmd => !knownCommand cmd
  | .zeroCrossing ticks => ticks ≤ 4095
  | _ => true

end Sys2Proof
end

