-- ==== Sys2Proof/Safety.lean ====
section
/-! DEFINITION. What the manual promises of every reachable state, and the command a port's bytes stand for, in the
terms the statements use. -/

namespace Sys2Proof.Machine

open Sys2Proof

/-- The bounds the manual gives its queues and FIFOs: the receive direct FIFO never holds more than 256 bytes (R77), the
local flow state is XOFF while it holds 192 or more (R81), the reply queue holds 4 replies (R74), the key-to-line FIFO
32 characters (R105), the key queue 16 entries (R121), the local copy buffer 160 bytes (R131), the feed-request count
is at most 9 (R129), and the down set holds at most four non-modifier keys (R113). -/
structure BuffersBounded (s : State) : Prop where
  fifo : s.parser.fifo.length ≤ 256
  paused : 192 ≤ s.parser.fifo.length → s.parser.localFlow = .xoff
  replies : s.parser.replies.length ≤ 4
  keyFifo : s.sched.keyFifo.length ≤ 32
  keyQueue : s.kbd.queue.length ≤ 16
  copyBuffer : s.arb.copyBuffer.length ≤ 160
  feeds : s.arb.feeds ≤ 9
  rollover : s.kbd.nonModifiers ≤ 4

/-- The nine line counters are 16-bit counts (R82). -/
def Counters.bounded (c : Counters) : Prop := ∀ n ∈ c.list, n ≤ 65535

/-- Slot 0 always has kind ANSWERBACK and state STANDING (R1); it belongs to no chain, and no successor link names it,
since links name slots 1 to 23 alone (R2). -/
structure SlotZeroStands (s : State) : Prop where
  kind : (s.slot 0).kind = some .answerback
  state : (s.slot 0).state = .standing
  chainHead : (s.slot 0).chainHead = none
  successor : (s.slot 0).successor = none
  unlinked : ∀ i : SlotId, (s.slot i).successor ≠ some 0

/-- The dots of a row that a set of strobes drives: the black dots of its blocks (R156, R157). -/
def groupDots (p : Dots) (g : BitVec 16) : Nat := (((List.range 16).filter g.getLsbD).map (blockCount p)).sum

/-- The head is safe: every strobe is released unless a row is being fired in ROW (R158); every firing group of a row,
and the set of strobes asserted now, drives at most Nmax dots, with Nmax from 40 to 160 and Td from 250 to 3000 µs
(R153 to R157). -/
structure HeadSafe (s : State) : Prop where
  released : s.engine.state ≠ .row → s.engine.firing = none
  idle : s.engine.firing = none → s.engine.strobes = 0
  groups : ∀ f, s.engine.firing = some f → ∀ g ∈ f.groups, groupDots f.row g ≤ f.nmax
  strobes : ∀ f, s.engine.firing = some f → groupDots f.row s.engine.strobes ≤ f.nmax
  limit : ∀ f, s.engine.firing = some f → 40 ≤ f.nmax ∧ f.nmax ≤ 160
  times : ∀ f, s.engine.firing = some f → 250 ≤ f.td ∧ f.td ≤ 3000 ∧ f.ts = 3 * f.td / 4

/-- An event unit's occurrences are 1 to 255 while a flag is set (R174). -/
def EventUnit.countsInRange (u : EventUnit) : Prop :=
  ∀ n : Fin 8, ∀ o, u.sources[n] = some o → 1 ≤ o.count ∧ o.count ≤ 255

/-- The row of the command table that a command of the table on a port is. -/
def commandOn (p : Port) : PortCommand → Instr
  | .claim k => .claim p k
  | .release i => .release p i
  | .setAttributes i pr n f r k b => .setAttributes p i pr n f r k b
  | .writeText i o n e bytes => .writeText p i o n e bytes
  | .readText i o n => .readText p i o n
  | .readFlaws i => .readFlaws p i
  | .readSlotInfo i => .readSlotInfo p i
  | .hold i => .hold p i
  | .unhold i => .unhold p i
  | .post i => .post p i
  | .repost i => .repost p i
  | .edit i => .edit p i
  | .withdraw i => .withdraw p i
  | .arm i => .arm p i
  | .connect m => .connect p m
  | .hangUp m => .hangUp p m
  | .lineReset => .lineReset p
  | .sendBreak => .sendBreak p
  | .readLineStatus => .readLineStatus p
  | .clearCounters => .clearCounters p
  | .readOpenText n => .readOpenText p n
  | .takeFocus => .takeFocus p
  | .giveFocus => .giveFocus p
  | .readKeys n => .readKeys p n
  | .feed n => .feed p n
  | .readPrintStatus => .readPrintStatus p
  | .drainMark x => .drainMark p x
  | .readDrain => .readDrain p
  | .readEvent => .readEvent p
  | .ackEvent n => .ackEvent p n
  | .setEventMask m => .setEventMask p m
  | .setAlertEnables m => .setAlertEnables p m
  | .readAlerts => .readAlerts p
  | .configure k v => .configure p k v
  | .readSetting k => .readSetting p k
  | .readStatus => .readStatus p
  | .controllerReset => .controllerReset p

/-- A slot command names a slot the port owns: the tests 1 to 3 of R5 pass. -/
def State.owns (s : State) (p : Port) (slot : Byte) (i : SlotId) : Prop :=
  slot.toNat = i.val ∧ (s.slot i).state ≠ .free ∧ (s.slot i).owner = some p

/-- A command answered with a refusal, or with a code and no data, that changes nothing but the port's attachment
(R123) and its answer (R183, R186). -/
def State.answeredOnly (s : State) (p : Port) (r : Result) : State := (s.attach p).respond p ⟨r, []⟩

/-- A walk along the successor links: the slots in order, the last of them without a successor (R16). -/
def State.linked (s : State) : List SlotId → Prop
  | [] => False
  | [i] => (s.slot i).successor = none
  | i :: j :: l => (s.slot i).successor = some j ∧ s.linked (j :: l)

/-- A chain as POST and REPOST require it (R16, R18): a walk from `i` of 1 to 8 members, none repeated, each passing
the test. -/
def State.chainFrom (s : State) (i : SlotId) (test : Slot → Prop) (l : List SlotId) : Prop :=
  l.head? = some i ∧ s.linked l ∧ l.Nodup ∧ l.length ≤ 8 ∧ ∀ m ∈ l, test (s.slot m)

/-- A SEND or a PRINT slot. -/
abbrev Slot.chains (x : Slot) : Prop := x.kind = some .send ∨ x.kind = some .print

/-- The slot a command of the command table names, for the slot commands other than CLAIM (R5). -/
def slotNamed : PortCommand → Option Byte
  | .release i | .setAttributes i _ _ _ _ _ _ | .writeText i _ _ _ _ | .readText i _ _ | .readFlaws i
  | .readSlotInfo i | .hold i | .unhold i | .post i | .repost i | .edit i | .withdraw i | .arm i => some i
  | _ => none

/-- The slot commands that any port may send to slot 0 (R5). -/
def allowsAnyPort : PortCommand → Bool
  | .readText _ _ _ | .readSlotInfo _ => true
  | _ => false

/-- The samples of a frame: each line bit read 16 times (R40). -/
def frameSamples (t : Settings) (b : Byte) : List Level := (frameOf t b).flatMap fun l => List.replicate 16 l

/-- What a bit sampler hands to the parser over a list of samples, and the sampler after them. -/
def samplerRun (t : Settings) : Sampler → List Level → Sampler × List Sampled
  | x, [] => (x, [])
  | x, l :: ls =>
    let r := x.sample t l
    let rest := samplerRun t r.1 ls
    (rest.1, if r.2 = .nothing then rest.2 else r.2 :: rest.2)

end Sys2Proof.Machine
end

