-- ==== Sys2Proof/Certificates/Slice0/Obligations.lean ====
section
/-! DEFINITION. The statements for the provers, rule by rule of spec/. A statement about a command's result gives the
whole next state, so its frame is part of it: whatever the equation does not name is unchanged. -/

open Sys2Proof Sys2Proof.Machine

/-! ## The whole machine -/

/-- A step takes the command at the front of the queue and answers `exec` of it on the state with the queue's rest.
With no command waiting it is one tick of 1 µs, by the model's choice (assumption 28): every running timer goes down
by 1 and stays at 0, the crossing counter rises up to 4095 (R33), the element being sent goes on, and a modulator
sample, one every 31.25 µs from the carrier-on (assumption 35), adds the increment of the tone then due (R28), or
takes the carrier-off request that waits for it (R29, R32); a break lasts 250 ms from its first space sample (R31). In
LOOP a sample that changes the sign of the modulator's output is a half-period (R46); in no other mode is it, nor with
the carrier turned off. While RESETN is held low only a motor step under way goes on (R164, R188). -/
def Obligations.StepRunsTheFrontCommand : Prop :=
  (∀ (c : Instr) (rest : List Instr) (s : State),
    step { s with pending := c :: rest } = exec c { s with pending := rest })
  ∧ ∀ s : State, s.pending = [] →
    let engine : Engine := { s.engine with
      paperTimer := s.engine.paperTimer.map (· - 1), sampleTimer := s.engine.sampleTimer.map (· - 1),
      stepTimer := s.engine.stepTimer.map (· - 1), groupTimer := s.engine.groupTimer.map (· - 1) }
    let off : Prop := s.modem.modulator = .off
    let sampled : Prop := ¬off ∧ 121 ≤ s.modem.sampleClock
    let cut : Prop := sampled ∧ s.modem.offDue = true
    let quarter : Nat := 125 - s.modem.sampleClock
    let tone : Level := match s.modem.modulator with
      | .character frame elapsed => frame.getD ((4 * elapsed + quarter) * s.settings.lineSpeed / 4000000) .mark
      | .breaking none => .space
      | .breaking (some left) => if quarter < left then .space else .mark
      | .off | .markIdle => .mark
    let added : BitVec 16 := match s.modem.mode, tone with
      | .answer, .mark => 4588
      | .answer, .space => 4178
      | _, .mark => 2417
      | _, .space => 2007
    let t : State := { s with
      engine := engine
      modem.crossing := min 4095 (s.modem.crossing + 1)
      modem.modulator := if cut then .off else match s.modem.modulator with
        | .character frame elapsed => .character frame (elapsed + 1)
        | .breaking none => .breaking (if sampled then some (1000000 - (4 - quarter)) else none)
        | .breaking (some left) => .breaking (some (left - 4))
        | m => m
      modem.offDue := if cut then false else s.modem.offDue
      modem.sampleClock :=
        if off ∨ cut then 0 else if sampled then s.modem.sampleClock - 121 else s.modem.sampleClock + 4
      modem.phase := if cut then 0 else if sampled then s.modem.phase + added else s.modem.phase
      modem.qualifyTimer := s.modem.qualifyTimer.map (· - 1)
      modem.silenceTimer := s.modem.silenceTimer.map (· - 1)
      modem.requalifyTimer := s.modem.requalifyTimer.map (· - 1)
      modem.fadeTimer := s.modem.fadeTimer.map (· - 1)
      sup.connectTimer := s.sup.connectTimer.map (· - 1)
      sup.clearingTimer := s.sup.clearingTimer.map (· - 1)
      parser.silence.timer := s.parser.silence.timer.map (· - 1)
      sched.holdWait := s.sched.holdWait.map fun w => ⟨w.target, w.timer.map (· - 1)⟩
      sched.replyTimer := s.sched.replyTimer.map (· - 1)
      sched.flowTimer := s.sched.flowTimer.map (· - 1)
      sched.masks := ⟨s.sched.masks.a.map (· - 1), s.sched.masks.b.map (· - 1)⟩
      kbd.repeatTimer := s.kbd.repeatTimer.map (· - 1)
      kbd.scanTimer := s.kbd.scanTimer.map (· - 1)
      arb.silence.timer := s.arb.silence.timer.map (· - 1)
      arb.holdWait := s.arb.holdWait.map fun w => ⟨w.head, w.timer.map (· - 1)⟩
      arb.masks := ⟨s.arb.masks.a.map (· - 1), s.arb.masks.b.map (· - 1)⟩
      monitor.burst := s.monitor.burst.map (· - 1)
      monitor.batteryTimer := s.monitor.batteryTimer.map (· - 1)
      monitor.headTimer := s.monitor.headTimer.map (· - 1)
      monitor.blinkTimer := s.monitor.blinkTimer.map (· - 1)
      startupTimer := s.startupTimer.map (· - 1) }
    (s.power = .held → step s = .next { s with engine := engine })
    ∧ (s.power ≠ .held →
      (s.modem.mode ≠ .loop ∨ t.modem.modulator = .off ∨ t.modem.sampleSign = s.modem.sampleSign) → step s = .next t)
    ∧ (s.power ≠ .held → s.modem.mode = .loop → t.modem.modulator ≠ .off → t.modem.sampleSign ≠ s.modem.sampleSign →
      step s = .next (t.recordHalfPeriod t.modem.crossing))
    ∧ (s.modem.phase ≠ 0 → s.modem.phase ≠ 0x8000 →
      (s.modem.sampleSign = true ↔ s.modem.phase.toNat < 32768))

/-- No command ends in a fault or a refusal, and none touches the queue of waiting commands: the manual gives every
command an effect or an answer in every state. -/
def Obligations.EveryCommandCompletes : Prop :=
  ∀ (c : Instr) (s : State), ∃ t : State, exec c s = .next t ∧ t.pending = s.pending

/-- RESETN held and released, and the 2 ms over, give the state after reset with the ADDR pin and the model's own
fields kept (assumptions 1, 33 and 40), whatever the state was, when no step was under way (R188). Port A then has no
select, or one begun in the 2 ms that is ignored to its end; which of the two no row tells (assumption 40). A step
under way runs to its end with the strobe times it computed, takes its motor step, and leaves the engine idle (R164).
The latch of the head is then empty by the model's choice (assumption 44). That the sample position is 0 outside a
character is the model's choice (assumption 45). -/
def Obligations.ResetPin : Prop :=
  (∀ s : State, s.engine.state = .idle ∨ s.engine.state = .held →
     ∃ t u v : State, exec .resetnAsserted s = .next t ∧ t.power = .held ∧ t.kbd.scanTimer = none
       ∧ exec .resetnReleased t = .next u ∧ u.power = .ignoring ∧ u.startupTimer = some 2000
       ∧ exec .startupIgnoreEnd u = .next v
       ∧ v = { State.reset with
           portA := v.portA, addrHigh := s.addrHigh, startups := s.startups + 1, pending := s.pending }
       ∧ (v.portA = .none ∨ v.portA = .ignored)
       ∧ exec .portASelectEnd v = .next { v with portA := .none })
  ∧ (∀ s : State, s.engine.state = .row ∨ s.engine.state = .blank →
       ∃ t u : State, exec .resetnAsserted s = .next t ∧ t.engine.state = s.engine.state ∧ t.engine.stopRequested = true
         ∧ t.engine.firing = s.engine.firing ∧ t.engine.stepTimer = s.engine.stepTimer ∧ t.engine.previous = 0
         ∧ t.engine.batteryJudged = false ∧ t.engine.headJudged = false
         ∧ exec .stepEnd t = .next u ∧ u.engine.state = .idle ∧ u.engine.line = none ∧ u.engine.stopRequested = false
         ∧ u.engine.phaseIndex = s.engine.phaseIndex + 1 ∧ u.engine.stepCounter = s.engine.stepCounter + 1
         ∧ u.arb.unit = .none)

/-- The state after reset has the values the manual gives the blocks (R3, R29, R33, R35, R40, R47, R63, R84, R127,
R129, R149, R166, R171, R174, R186), the 25 settings their defaults (R191), and it meets the invariants of the
statements below. A descriptor field that a slot has not (R3) stands at the model's own value for it, which no port
can read. -/
def Obligations.ResetValuesAndInvariants : Prop :=
  let s := State.reset
  (∀ i : SlotId, s.slot i = {
    kind := if i = 0 then some .answerback else none, owner := none, state := if i = 0 then .standing else .free,
    length := 0, text := Vector.replicate 80 0x20, priority := 0, successor := none, chainHead := none,
    framing := .plain, route := 0, cls := .n, copy := false, protect := false, autoprint := false, hold := false,
    attempts := 0, outcome := none, flaws := 0, record := none, job := .absent })
  ∧ (s.modem.mode = .originate ∧ s.modem.modulator = .off ∧ s.modem.offDue = false ∧ s.modem.phase = 0 ∧ s.modem.crossing = 0
    ∧ s.modem.hPrev = 4095 ∧ s.modem.level = .mark ∧ s.modem.carrier = .absent ∧ s.modem.qualifyTimer = none
    ∧ s.modem.silenceTimer = none ∧ s.modem.requalifyTimer = none ∧ s.modem.fadeTimer = none
    ∧ s.modem.sampler.state = .suspended)
  ∧ s.sup = ⟨.idle, none, none, none, .none⟩
  ∧ s.parser = ⟨.text, [], [], ⟨none, false⟩, .xon, none, ⟨0, 0, 0, 0, 0, 0, 0, 0, 0⟩⟩
  ∧ s.sched = {
    sendQueue := [], keyFifo := [], answerbackPending := false, turn := .none, holdWait := none, replyTimer := none,
    remoteFlow := .xon, flowTimer := none, breakRequest := .none, withdrawalPending := false, lastTurn := .key,
    lastChainPort := .b, masks := ⟨none, none⟩, issued := 0, marks := ⟨.none, .none⟩, handed := none }
  ∧ ((∀ p : KeyPos, s.kbd.debounce[p] = ⟨false, 0⟩) ∧ s.kbd.down = [] ∧ s.kbd.caps = false ∧ s.kbd.repeatKey = none
    ∧ s.kbd.repeatTimer = none ∧ s.kbd.queue = [] ∧ s.kbd.focus = none ∧ s.kbd.wanted = none
    ∧ s.kbd.attached = ⟨false, false⟩)
  ∧ s.arb = {
    queue := [], issued := 0, copyBuffer := [], silence := ⟨none, false⟩, feeds := 0, unit := .none,
    buffer := ⟨Vector.replicate 80 .empty, 0⟩, ldsEnd := .normal, lcsEnd := .normal, holdWait := none,
    withdrawalPending := false, lastUnit := .queue, lastJobPort := .b, masks := ⟨none, none⟩, marks := ⟨.none, .none⟩ }
  ∧ (s.engine.state = .idle ∧ s.engine.line = none ∧ s.engine.stopRequested = false ∧ s.engine.previous = 0
    ∧ s.engine.supply = false ∧ s.engine.heat = false ∧ s.engine.paper = false ∧ s.engine.batteryJudged = false
    ∧ s.engine.headJudged = false ∧ s.engine.paperOutPending = false ∧ s.engine.paperTimer = none
    ∧ s.engine.lastPaperOut = false ∧ s.engine.phaseIndex = 0 ∧ s.engine.stepCounter = 0
    ∧ s.engine.record = ⟨0, 0, 0, 0, 0, 0, 0⟩ ∧ s.engine.strobes = 0)
  ∧ (s.monitor.v = 0 ∧ s.monitor.batteryTaken = false ∧ s.monitor.th = 0 ∧ s.monitor.headTaken = false
    ∧ s.monitor.supplyLow = false ∧ s.monitor.batteryDue = false ∧ s.monitor.blinkLit = true
    ∧ s.monitor.burst = none)
  ∧ (∀ p, (s.events.get p).masks = 0xFF ∧ (s.events.get p).enables = 0xFF ∧ (s.events.get p).latched = 0
    ∧ (s.events.get p).pointer = 7 ∧ ∀ n : Fin 8, (s.events.get p).sources[n] = none)
  ∧ s.settings = {
    lineSpeed := 300, dataBits := 7, parity := .even, stopBits := 1, qualifyTime := 150, fadeTime := 400,
    connectTimeout := 30, replyTimeout := 4, attemptLimit := 3, flowLimit := 60, turnMode := .alternate,
    holdTimeout := 2000, maskTime := 1000, sink := .print, printMode := .liveFirst, density := 8, repeatDelay := 500,
    repeatRate := 10, keyMode := ⟨.queue, .queue⟩, lampLine := .auto, lampPaper := .auto, lampSupply := .auto,
    lampFocus := .auto, beeper := true }
  ∧ s.portA = .none ∧ s.lastB = [0x02]
  ∧ SlotZeroStands s ∧ BuffersBounded s ∧ HeadSafe s ∧ s.events.a.countsInRange ∧ s.events.b.countsInRange
  ∧ s.parser.counters.bounded

/-- Every step keeps slot 0 an ANSWERBACK slot in STANDING, outside every chain (R1, R2). -/
def Obligations.StepKeepsSlotZero : Prop := ∀ s t : State, SlotZeroStands s → step s = .next t → SlotZeroStands t

/-- Every step keeps the bounds of the queues and FIFOs: 256 received bytes with XOFF from 192 on (R77, R81), 4
replies (R74), 32 line characters (R105), 16 key entries (R121), 160 copied bytes (R131), 9 feed requests (R144) and 4
non-modifier keys down (R113). -/
def Obligations.StepKeepsBuffersBounded : Prop := ∀ s t : State, BuffersBounded s → step s = .next t → BuffersBounded t

/-- Every step keeps the head safe: no strobe outside a fired row, at most Nmax dots strobed together, 40 ≤ Nmax ≤
160, 250 ≤ Td ≤ 3000 µs and Ts = floor(3Td/4) (R153 to R158). -/
def Obligations.StepKeepsHeadSafe : Prop := ∀ s t : State, HeadSafe s → step s = .next t → HeadSafe t

/-- Every step keeps the occurrences of a set event flag within 1 to 255 at both units (R174), and the nine line
counters within 16 bits (R82). -/
def Obligations.StepKeepsCountsInRange : Prop :=
  ∀ s t : State, s.events.a.countsInRange → s.events.b.countsInRange → s.parser.counters.bounded → step s = .next t →
    t.events.a.countsInRange ∧ t.events.b.countsInRange ∧ t.parser.counters.bounded

/-! ## Ports -/

/-- A write to port B's own address that carries a command and all its arguments does what the command does on port B,
whatever bytes follow (R185); the bytes are read back as that command. -/
def Obligations.PortBWriteIsItsCommand : Prop :=
  ∀ (c : PortCommand) (extra : List Byte) (s : State), c.wellFormed = true →
    parseCommand (c.bytes ++ extra) = .command c
      ∧ exec (.portBWriteEnd ⟨s.busAddress, c.bytes ++ extra⟩) s = exec (commandOn .b c) s

/-- Transactions that execute nothing. A select or a write short of its arguments raises SHORT with the command code
(R183, R185), one without a command byte raises nothing, and an unknown command byte raises UNKNOWN and is answered
UNKNOWN (R184). A read of port B changes nothing and returns the last response, then 0xFF (R186); a stall raises
TIMEOUT with the command code of a write that had one, and nothing else (R187); the end of a select leaves port A
without one (R183, R188). Port B answers to its own address alone, 0x2C or 0x2D by the ADDR pin, and to none before it
serves (R185, R188); that a read it does not acknowledge gives 0xFF is the model's (assumption 38). SDO sends 0xFF
while a command is taken in, then the answer, then 0xFF; an ignored select gets 0xFF, and SDO is high-impedance with
no select or RESETN low (R183, R184, R188). How the rows of the command table delimit port A's selects is the model's
choice (assumption 6). -/
def Obligations.TransactionsThatExecuteNothing : Prop :=
  (∀ s : State,
     (s.portServes .a = true →
       (∀ cmd, takesArguments cmd = true →
         exec (.portASelectShort (some cmd)) s = .next { s.raise .a (.port .short (some cmd)) with portA := .none })
       ∧ exec (.portASelectShort none) s = .next { s with portA := .none }
       ∧ ∀ cmd, knownCommand cmd = false →
         exec (.portAUnknownCommand cmd) s =
           .next { s.raise .a (.port .unknown (some cmd)) with portA := .answered [0x80] })
     ∧ (s.portServes .b = true →
       (∀ (c : PortCommand) (k : Nat), c.wellFormed = true → k < c.arguments.length →
         exec (.portBWriteEnd ⟨s.busAddress, c.bytes.take (k + 1)⟩) s = .next (s.raise .b (.port .short (some c.code))))
       ∧ exec (.portBWriteEnd ⟨s.busAddress, []⟩) s = .next s
       ∧ ∀ cmd rest, knownCommand cmd = false →
         exec (.portBWriteEnd ⟨s.busAddress, cmd :: rest⟩) s =
           .next { s.raise .b (.port .unknown (some cmd)) with lastB := [0x80] }))
  ∧ (∀ s : State,
       s.busAddress = (if s.addrHigh then 0x2D else 0x2C)
       ∧ (∀ w : BusWrite, w.address ≠ s.busAddress ∨ s.power ≠ .serving → exec (.portBWriteEnd w) s = .next s)
       ∧ exec .portBRead s = .next s
       ∧ ∀ (a : BitVec 7) (n i : Nat), i < n → (s.readB a n)[i]? =
         some (if s.power = .serving ∧ a = s.busAddress then s.lastB.getD i 0xFF else 0xFF))
  ∧ (∀ (s : State) (selected : Bool) (taken i : Nat),
       (s.power = .held ∨ selected = false → s.sdo selected taken i = none)
       ∧ (s.power ≠ .held → selected = true →
         (∀ r, s.portA = .answered r → (i < taken → s.sdo true taken i = some 0xFF)
           ∧ s.sdo true taken (taken + i) = some (r.getD i 0xFF))
         ∧ ((∀ r, s.portA ≠ .answered r) → s.sdo true taken i = some 0xFF)))
  ∧ (∀ (s : State) (cmd : Option Byte), s.portServes .b = true →
       exec (.portBTimeout cmd) s = .next (s.raise .b (.port .timeout cmd)))
  ∧ ∀ s : State, s.power ≠ .held → exec .portASelectEnd s = .next { s with portA := .none }

/-- No command acts on a port that does not serve it: while RESETN is held low and in the 2 ms after it, nothing
changes, but that a select begun in the 2 ms is ignored to its end (R188). -/
def Obligations.PortsIgnoreBeforeService : Prop :=
  ∀ (s : State) (p : Port) (c : PortCommand),
    (s.power = .held → exec (commandOn p c) s = .next s)
    ∧ (s.power = .ignoring → exec (commandOn .b c) s = .next s
        ∧ exec (commandOn .a c) s = .next { s with portA := .ignored })
    ∧ (s.portA = .ignored → s.power = .serving → exec (commandOn .a c) s = .next s)

/-! ## Slot store -/

/-- R5, tests 1 to 3: a slot command other than CLAIM that names no slot, a FREE slot or a slot the port does not own
is refused and changes nothing; READ TEXT and READ SLOT INFO on slot 0 are allowed to any port. -/
def Obligations.SlotCommandsTestTheSlot : Prop :=
  ∀ (s : State) (p : Port) (c : PortCommand) (b : Byte), s.portServes p = true → slotNamed c = some b →
    (23 < b.toNat → exec (commandOn p c) s = .next (s.answeredOnly p .badArg))
    ∧ ∀ i : SlotId, b.toNat = i.val →
      ((s.slot i).state = .free → exec (commandOn p c) s = .next (s.answeredOnly p .wrongState))
      ∧ ((s.slot i).state ≠ .free → (s.slot i).owner ≠ some p → ¬(i = 0 ∧ allowsAnyPort c = true) →
        exec (commandOn p c) s = .next (s.answeredOnly p .notOwner))

/-- R6 and R7: CLAIM of a general slot takes the lowest-numbered FREE one; CLAIM(ANSWERBACK) makes the port the owner
of slot 0 while it has none. -/
def Obligations.ClaimGivesASlot : Prop :=
  (∀ (s : State) (p : Port) (b : Byte), s.portServes p = true →
     (4 ≤ b.toNat → exec (.claim p b) s = .next (s.answeredOnly p .badArg))
     ∧ ∀ k, (b, k) ∈ [((0 : Byte), Kind.send), (1, Kind.print), (2, Kind.receive)] →
       (16 ≤ s.owned p → exec (.claim p b) s = .next (s.answeredOnly p .quota))
       ∧ (s.owned p < 16 → (∀ i : SlotId, i ≠ 0 → (s.slot i).state ≠ .free) →
         exec (.claim p b) s = .next (s.answeredOnly p .noSlot))
       ∧ ∀ i : SlotId, s.owned p < 16 → i ≠ 0 → (s.slot i).state = .free →
         (∀ j : SlotId, j ≠ 0 → j < i → (s.slot j).state ≠ .free) →
         exec (.claim p b) s = .next (((s.attach p).setSlot i
           { kind := some k, owner := some p, state := .held, length := 0, text := Vector.replicate 80 0x20, priority := 4,
             successor := none, chainHead := none, framing := .plain, route := 0x41, cls := .n, copy := false,
             protect := false, autoprint := false, hold := false, attempts := 0, outcome := none, flaws := 0,
             record := none, job := .absent }).respond p ⟨.ok, [BitVec.ofNat 8 i.val]⟩))
  ∧ (∀ (s : State) (p : Port), s.portServes p = true →
       ((s.slot 0).owner = none → s.owned p < 16 →
         exec (.claim p 3) s = .next (((s.attach p).setSlot 0 { s.slot 0 with owner := some p }).respond p ⟨.ok, [0]⟩))
       ∧ ((s.slot 0).owner = none → 16 ≤ s.owned p → exec (.claim p 3) s = .next (s.answeredOnly p .quota))
       ∧ ((s.slot 0).owner = some p → exec (.claim p 3) s = .next ((s.attach p).respond p ⟨.ok, [0]⟩))
       ∧ ((s.slot 0).owner = some (otherPort p) → exec (.claim p 3) s = .next (s.answeredOnly p .wrongState))
       ∧ ((s.slot 0).owner = none → s.owned p < 16 → s.portServes (otherPort p) = true →
         ∃ t : State, exec (.claim p 3) s = .next t
           ∧ exec (.claim (otherPort p) 3) t = .next (t.answeredOnly (otherPort p) .wrongState)))

/-- RELEASE (R8 to R10): the slot becomes FREE with no descriptor field and length 0, every link that named it goes,
and a chain released in an end state splits behind it. A waiting auto-print job leaves the print queue. The text bytes
behind length 0 stand (assumption 30). -/
def Obligations.ReleaseFreesTheSlot : Prop :=
  ∀ (s : State) (p : Port) (b : Byte) (i : SlotId), s.portServes p = true → s.owns p b i →
    (i = 0 → exec (.release p b) s =
      .next (((s.attach p).setSlot 0 { s.slot 0 with owner := none }).respond p ⟨.ok, []⟩))
    ∧ (i ≠ 0 → (s.slot i).state ∈ [SlotState.queued, .active, .copying] →
      exec (.release p b) s = .next (s.answeredOnly p .wrongState))
    ∧ (i ≠ 0 → (s.slot i).state ∈ [SlotState.held, .armed, .pending, .done, .aborted, .failed] →
      ((s.slot i).job = .printing → exec (.release p b) s = .next (s.answeredOnly p .busy))
      ∧ ((s.slot i).job ≠ .printing → ∃ v : Vector Slot 24,
        exec (.release p b) s = .next ((if (s.slot i).job = AutoJob.waiting then { s.attach p with slots := v }.dropJob .auto i
          else { s.attach p with slots := v }).respond p ⟨.ok, []⟩)
        ∧ v[i] = { Slot.unclaimed with text := (s.slot i).text }
        ∧ (∀ j : SlotId, j ≠ i → ∃ h, v[j] = { s.slot j with
            successor := if (s.slot j).successor = some i then none else (s.slot j).successor, chainHead := h })
        ∧ (¬((s.slot i).chains ∧ (s.slot i).state ∈ [SlotState.done, .aborted, .failed]) →
          ∀ j : SlotId, j ≠ i → v[j].chainHead = (s.slot j).chainHead)
        ∧ ∀ l : List SlotId, (s.slot i).chains → (s.slot i).state ∈ [SlotState.done, .aborted, .failed] →
          s.chainFrom i (fun x => x.chainHead = (s.slot i).chainHead) (i :: l) →
          ∀ j : SlotId, j ≠ i → v[j].chainHead = if j ∈ l then l.head? else (s.slot j).chainHead))

/-- R11: SET ATTRIBUTES stores the fields the slot's kind holds, with a priority above 7 stored as 7. That every coded
argument is tested, whatever the kind, is the model's choice (assumption 15). -/
def Obligations.SetAttributesStores : Prop :=
  ∀ (s : State) (p : Port) (b : Byte) (i : SlotId) (pr nb fb rb cb flags : Byte),
    s.portServes p = true → s.owns p b i →
    (∀ (n : Option SlotId) (f : Framing) (k : RecordClass),
      ((nb = 0xFF ∧ n = none) ∨ ∃ j : SlotId, n = some j ∧ nb.toNat = j.val ∧ j ≠ 0 ∧ (s.slot j).state ≠ .free) →
      (fb, f) ∈ [((0 : Byte), Framing.plain), (1, Framing.record)] →
      (cb, k) ∈ [((0x43 : Byte), RecordClass.c), (0x4E, RecordClass.n)] →
      (rb.toNat ∈ List.range' 0x41 26 ∨ rb.toNat ∈ List.range' 0x30 10 ∨
        ((s.slot i).kind = some .receive ∧ rb = 0x2A)) →
      flags.toNat ≤ 7 →
      ((s.slot i).state = .held →
        let x := s.slot i
        let code : Result := if 7 < pr.toNat then .okClamped else .ok
        (x.kind = some .send → exec (.setAttributes p b pr nb fb rb cb flags) s = .next (((s.attach p).setSlot i
          { x with priority := min 7 pr.toNat, successor := n, framing := f, route := rb, cls := k,
                   copy := flags.getLsbD 0 }).respond p ⟨code, []⟩))
        ∧ (x.kind = some .print → exec (.setAttributes p b pr nb fb rb cb flags) s = .next (((s.attach p).setSlot i
          { x with priority := min 7 pr.toNat, successor := n }).respond p ⟨code, []⟩))
        ∧ (x.kind = some .receive → exec (.setAttributes p b pr nb fb rb cb flags) s = .next (((s.attach p).setSlot i
          { x with priority := min 7 pr.toNat, route := rb, protect := flags.getLsbD 1,
                   autoprint := flags.getLsbD 2 }).respond p ⟨code, []⟩)))
      ∧ ((s.slot i).state ≠ .held →
        exec (.setAttributes p b pr nb fb rb cb flags) s = .next (s.answeredOnly p .wrongState)))
    ∧ ((2 ≤ fb.toNat ∨ (cb ≠ 0x43 ∧ cb ≠ 0x4E) ∨ nb = 0 ∨ (24 ≤ nb.toNat ∧ nb.toNat ≤ 254)
        ∨ (∃ j : SlotId, nb.toNat = j.val ∧ (s.slot j).state = .free)
        ∨ (rb = 0x2A ∧ (s.slot i).kind ≠ some .receive)) →
      exec (.setAttributes p b pr nb fb rb cb flags) s = .next (s.answeredOnly p .badArg))

/-- R12: WRITE TEXT. -/
def Obligations.WriteTextStores : Prop :=
  ∀ (s : State) (p : Port) (b : Byte) (i : SlotId) (offset count ef : Byte) (bytes : List Byte),
    s.portServes p = true → s.owns p b i →
    ((79 < offset.toNat ∨ count = 0 ∨ 32 < count.toNat) →
      exec (.writeText p b offset count ef bytes) s = .next (s.answeredOnly p .badArg))
    ∧ (offset.toNat ≤ 79 → 1 ≤ count.toNat → count.toNat ≤ 32 → ef.toNat ≤ 1 → bytes.length = count.toNat →
      let x := s.slot i
      ((x.chains ∧ x.state = .held) ∨ (x.chains ∧ x.state = .queued ∧ x.hold = true)
          ∨ (i = 0 ∧ x.state = .standing ∧ x.hold = true) →
        exec (.writeText p b offset count ef bytes) s = .next (((s.attach p).setSlot i
          { x with
            text := Vector.ofFn fun q : Fin 80 =>
              if offset.toNat ≤ q.val ∧ q.val < offset.toNat + count.toNat then bytes.getD (q.val - offset.toNat) 0
              else x.text[q]
            length := if ef = 1 then min 80 (offset.toNat + count.toNat)
              else max x.length (min 80 (offset.toNat + count.toNat)) }).respond p
          ⟨if 80 < offset.toNat + count.toNat then .okClamped else .ok, []⟩))
      ∧ ((x.state = .queued ∨ x.state = .standing) → x.hold = false →
        exec (.writeText p b offset count ef bytes) s = .next (s.answeredOnly p .notHeld))
      ∧ ((x.state = .active ∨ x.state = .copying) →
        exec (.writeText p b offset count ef bytes) s = .next (s.answeredOnly p .busy))
      ∧ ((x.kind = some .receive ∧ x.state ∈ [SlotState.held, .armed, .pending])
          ∨ x.state ∈ [SlotState.done, .aborted, .failed] →
        exec (.writeText p b offset count ef bytes) s = .next (s.answeredOnly p .wrongState)))

/-- R13 to R15: READ TEXT, READ FLAWS and READ SLOT INFO answer what the slot holds, in the layouts of section 11.7,
and change nothing but the port's attachment and answer. A field the kind does not hold, or that is absent, reads
0xFF; an absent owner and a flag the kind does not hold read 0 (R194). -/
def Obligations.SlotReadsAnswerTheSlot : Prop :=
  ∀ (s : State) (p : Port) (b : Byte) (i : SlotId), s.portServes p = true → b.toNat = i.val →
    (s.slot i).state ≠ .free → ((s.slot i).owner = some p ∨ i = 0) →
    (∀ offset count : Byte,
      ((79 < offset.toNat ∨ count = 0 ∨ 32 < count.toNat) →
        exec (.readText p b offset count) s = .next (s.answeredOnly p .badArg))
      ∧ (offset.toNat ≤ 79 → 1 ≤ count.toNat → count.toNat ≤ 32 →
        exec (.readText p b offset count) s = .next ((s.attach p).respond p
          ⟨.ok, BitVec.ofNat 8 (min count.toNat ((s.slot i).length - offset.toNat)) ::
            (((s.slot i).text.toList.drop offset.toNat).take
              (min count.toNat ((s.slot i).length - offset.toNat)))⟩)))
    ∧ ((s.slot i).owner = some p → ∃ l : List Byte, l.length = 10
      ∧ exec (.readFlaws p b) s = .next ((s.attach p).respond p ⟨.ok, l⟩)
      ∧ ∀ q < 80, (l.getD (q / 8) 0).getLsbD (q % 8) = (s.slot i).flaws.getLsbD q)
    ∧ (∃ flags : Byte,
      let x := s.slot i
      let send : Prop := x.kind = some .send
      let receive : Prop := x.kind = some .receive
      let number (n : Option Nat) : Byte := match n with
        | some n => BitVec.ofNat 8 n
        | none => 0xFF
      exec (.readSlotInfo p b) s = .next ((s.attach p).respond p ⟨.ok,
        [BitVec.ofNat 8 i.val, number (x.kind.map kindNumber), BitVec.ofNat 8 (portCode x.owner),
          slotStateByte x.state, BitVec.ofNat 8 x.length,
          if x.chains ∨ receive then BitVec.ofNat 8 x.priority else 0xFF,
          if x.chains then number (x.successor.map Fin.val) else 0xFF,
          if x.chains then number (x.chainHead.map Fin.val) else 0xFF,
          if send then (if x.framing = .plain then 0 else 1) else 0xFF,
          if send ∨ receive then x.route else 0xFF,
          if send then (if x.cls = .c then 0x43 else 0x4E) else 0xFF,
          flags,
          if send then BitVec.ofNat 8 x.attempts else 0xFF,
          if x.chains then number (x.outcome.map outcomeNumber) else 0xFF,
          (x.record.map (·.route)).getD 0xFF,
          (x.record.map fun r => if r.cls = .c then (0x43 : Byte) else 0x4E).getD 0xFF,
          if receive then BitVec.ofNat 8 (jobNumber x.job) else 0xFF]⟩)
      ∧ flags.toNat < 128
      ∧ (flags.getLsbD 0 = true ↔ send ∧ x.copy = true)
      ∧ (flags.getLsbD 1 = true ↔ receive ∧ x.protect = true)
      ∧ (flags.getLsbD 2 = true ↔ receive ∧ x.autoprint = true)
      ∧ (flags.getLsbD 3 = true ↔ ¬receive ∧ x.hold = true)
      ∧ (flags.getLsbD 4 = true ↔ ∃ r, x.record = some r ∧ r.overwritten = true)
      ∧ (flags.getLsbD 5 = true ↔ ∃ r, x.record = some r ∧ r.bad = true)
      ∧ (flags.getLsbD 6 = true ↔ x.record ≠ none))

/-- R20, R21: HOLD sets a hold flag and UNHOLD clears it, on a QUEUED SEND or PRINT slot and on slot 0; the clearing
of the last held member of a chain, or of slot 0's flag, starts what waits on it. -/
def Obligations.HoldAndUnhold : Prop :=
  ∀ (s : State) (p : Port) (b : Byte) (i : SlotId), s.portServes p = true → s.owns p b i →
    let x := s.slot i
    let cleared := (s.attach p).setSlot i { x with hold := false }
    ((x.state = .active ∨ x.state = .copying) → exec (.hold p b) s = .next (s.answeredOnly p .busy)
      ∧ exec (.unhold p b) s = .next (s.answeredOnly p .busy))
    ∧ (x.state ∈ [SlotState.held, .done, .aborted, .failed, .armed, .pending] →
      exec (.hold p b) s = .next (s.answeredOnly p .wrongState)
      ∧ exec (.unhold p b) s = .next (s.answeredOnly p .wrongState))
    ∧ ((x.state = .queued ∧ x.chains) ∨ (i = 0 ∧ x.state = .standing) →
      exec (.hold p b) s = .next (((s.attach p).setSlot i { x with hold := true }).respond p ⟨.ok, []⟩))
    ∧ (i = 0 → x.state = .standing →
      ((∀ t, s.sched.holdWait ≠ some ⟨.answerback, t⟩) →
        exec (.unhold p b) s = .next (cleared.respond p ⟨.ok, []⟩))
      ∧ ∀ t, s.sched.holdWait = some ⟨.answerback, t⟩ →
        exec (.unhold p b) s = .next (({ cleared with
          sched.answerbackPending := false
          sched.turn := .answerback cleared.answerbackBytes (match s.sched.turn with
            | .chain ct => some ct
            | _ => none)
          sched.holdWait := none }.settleTurn).respond p ⟨.ok, []⟩))
    ∧ (i ≠ 0 → x.state = .queued → ∀ h : SlotId, x.chainHead = some h →
      (cleared.chainHeld h = true → exec (.unhold p b) s = .next (cleared.respond p ⟨.ok, []⟩))
      ∧ (cleared.chainHeld h = false → x.kind = some .send →
        ((∀ t, s.sched.holdWait ≠ some ⟨.chain h, t⟩) → exec (.unhold p b) s = .next (cleared.respond p ⟨.ok, []⟩))
        ∧ ∀ t q, s.sched.holdWait = some ⟨.chain h, t⟩ → (s.sched.sendQueue.find? fun q => q.head = h) = some q →
          exec (.unhold p b) s = .next ((cleared.settleAfter (cleared.beginChain q)).respond p ⟨.ok, []⟩))
      ∧ (cleared.chainHeld h = false → x.kind = some .print →
        ((∀ t, s.arb.holdWait ≠ some ⟨h, t⟩) → exec (.unhold p b) s = .next (cleared.respond p ⟨.ok, []⟩))
        ∧ ∀ t, s.arb.holdWait = some ⟨h, t⟩ →
          exec (.unhold p b) s =
            .next (({ cleared with arb.holdWait := some ⟨h, none⟩ }.settle).respond p ⟨.ok, []⟩)))

/-- R16, R18: POST and REPOST take a chain of 1 to 8 members found along the successor links, enter every member in
QUEUED and the chain in its path's queue with the next entry number; any other walk is refused with BAD_CHAIN. -/
def Obligations.PostEntersTheQueue : Prop :=
  ∀ (s : State) (p : Port) (b : Byte) (i : SlotId), s.portServes p = true → s.owns p b i →
    let x := s.slot i
    let entered (l : List SlotId) : Vector Slot 24 := Vector.ofFn fun j : SlotId =>
      if j ∈ l then { s.slot j with state := .queued, chainHead := some i, attempts := 0, hold := false, outcome := none }
      else s.slot j
    let queued (l : List SlotId) : State :=
      if x.kind = some .send then
        { s.attach p with slots := entered l, sched.issued := s.sched.issued + 1,
                          sched.sendQueue := s.sched.sendQueue ++ [⟨i, s.sched.issued + 1⟩] }
      else
        { s.attach p with slots := entered l, arb.issued := s.arb.issued + 1,
                          arb.queue := s.arb.queue ++ [⟨.print, i, p, x.priority, s.arb.issued + 1⟩] }
    let postable (y : Slot) : Prop := y.state = .held ∧ y.kind = x.kind ∧ y.owner = some p
    let repostable (y : Slot) : Prop :=
      y.state = x.state ∧ y.chainHead = some i ∧ y.kind = x.kind ∧ y.owner = some p
    (¬x.chains → exec (.post p b) s = .next (s.answeredOnly p .wrongState))
    ∧ (x.chains →
      (∀ l, s.chainFrom i postable l →
        exec (.post p b) s = .next (((s.attach p).settleAfter (queued l)).respond p ⟨.ok, []⟩))
      ∧ ((∀ l, ¬s.chainFrom i postable l) → exec (.post p b) s = .next (s.answeredOnly p .badChain)))
    ∧ (¬(x.chains ∧ x.state ∈ [SlotState.done, .aborted, .failed] ∧ x.chainHead = some i) →
      exec (.repost p b) s = .next (s.answeredOnly p .wrongState))
    ∧ (x.chains → x.state ∈ [SlotState.done, .aborted, .failed] → x.chainHead = some i →
      (∀ l, s.chainFrom i repostable l →
        exec (.repost p b) s = .next (((s.attach p).settleAfter (queued l)).respond p ⟨.ok, []⟩))
      ∧ ((∀ l, ¬s.chainFrom i repostable l) → exec (.repost p b) s = .next (s.answeredOnly p .badChain)))

/-- R19 and R22: EDIT returns a chain in an end state, or an ARMED slot, to HELD; ARM opens a RECEIVE slot for
filing. -/
def Obligations.EditAndArm : Prop :=
  ∀ (s : State) (p : Port) (b : Byte) (i : SlotId), s.portServes p = true → s.owns p b i →
    let x := s.slot i
    let ended : Prop := x.chains ∧ x.state ∈ [SlotState.done, .aborted, .failed] ∧ x.chainHead = some i
    let opened : Slot := { x with state := .armed, length := 0, flaws := 0, record := none, job := .absent }
    (ended → exec (.edit p b) s = .next ({ s.attach p with
      slots := Vector.ofFn fun j : SlotId =>
        if (s.slot j).chainHead = some i then { s.slot j with state := .held, outcome := none, chainHead := none }
        else s.slot j }.respond p ⟨.ok, []⟩))
    ∧ (x.kind = some .receive → x.state = .armed →
      exec (.edit p b) s = .next (((s.attach p).setSlot i { x with state := .held }).respond p ⟨.ok, []⟩))
    ∧ (¬ended → ¬(x.kind = some .receive ∧ x.state = .armed) →
      exec (.edit p b) s = .next (s.answeredOnly p .wrongState))
    ∧ (¬(x.kind = some .receive ∧ (x.state = .held ∨ x.state = .pending)) →
      exec (.arm p b) s = .next (s.answeredOnly p .wrongState))
    ∧ (x.kind = some .receive → x.state = .held →
      exec (.arm p b) s = .next (((s.attach p).setSlot i { x with state := .armed }).respond p ⟨.ok, []⟩))
    ∧ (x.kind = some .receive → x.state = .pending →
      (x.job = .printing → exec (.arm p b) s = .next (s.answeredOnly p .busy))
      ∧ (x.job = .waiting →
        exec (.arm p b) s = .next ((((s.attach p).setSlot i opened).dropJob .auto i).respond p ⟨.ok, []⟩))
      ∧ (x.job = .absent → exec (.arm p b) s = .next (((s.attach p).setSlot i opened).respond p ⟨.ok, []⟩)))

/-- R100, R101, R138 and R139: WITHDRAW by the kind and state of the slot. -/
def Obligations.WithdrawByState : Prop :=
  ∀ (s : State) (p : Port) (b : Byte) (i : SlotId), s.portServes p = true → s.owns p b i →
    let x := s.slot i
    let s1 := s.attach p
    let result (t : State) : Prop := exec (.withdraw p b) s = .next (t.respond p ⟨.ok, []⟩)
    let refused (r : Result) : Prop := exec (.withdraw p b) s = .next (s.answeredOnly p r)
    (¬x.chains → refused .wrongState)
    ∧ (x.chains → x.state = .held → refused .notPosted)
    ∧ (x.chains → x.state ≠ .held → x.chainHead ≠ some i → refused .wrongState)
    ∧ (x.chains → x.chainHead = some i →
      (x.state ∈ [SlotState.done, .aborted, .failed] → refused .notPosted)
      ∧ (x.kind = some .send →
        (x.state = .queued →
          let t := s1.chainRequest i .send [.queued] .aborted (some .withdrawn)
          result (s1.settleAfter (({ t with
            sched.sendQueue := s.sched.sendQueue.filter fun q => q.head ≠ i
            sched.holdWait := if s.sched.holdWait.map LineHold.target = some (HoldTarget.chain i) then none else s.sched.holdWait
            }.clearingDropChain i).testLineMarks)))
        ∧ (x.state = .active → s.replyWait = none →
          result (s1.settleAfter { s1 with sched.withdrawalPending := true }))
        ∧ (x.state = .active → ∀ ct, s.replyWait = some ct → ct.head = i →
          result (s1.settleAfter (({ s1 with
            sched.turn := .none, sched.withdrawalPending := false, sched.replyTimer := none
            }.chainRequest i .send [.active] .aborted (some .withdrawn)).leaveLine i)))
        ∧ (x.state = .copying → s.jobQueued .copy i = true →
          result ((s1.chainRequest i .send [.copying] .done (some .copyCut)).dropJob .copy i))
        ∧ (x.state = .copying → s.jobQueued .copy i = false →
          result { s1 with arb.withdrawalPending := true }))
      ∧ (x.kind = some .print →
        (x.state = .queued →
          let t := (s1.chainRequest i .print [.queued] .aborted (some .withdrawn)).dropJob .print i
          result ({ t with
            arb.holdWait := if s.arb.holdWait.map PrintHold.head = some i then none else s.arb.holdWait }.settle))
        ∧ (x.state = .active → result { s1 with arb.withdrawalPending := true })))

/-- R24 and R25: a request that finds the head in its expected state moves every member of the chain, with hold flags
cleared and, for an end state, the outcome set and one ENDED event to the owner; any other request is discarded. -/
def Obligations.RequestsMoveTheWholeChain : Prop :=
  ∀ (s : State) (h : SlotId) (k : Kind) (expected : List SlotState) (new : SlotState) (o : Option EndOutcome),
    let found : Prop := (s.slot h).chainHead = some h ∧ (s.slot h).kind = some k ∧ (s.slot h).state ∈ expected
    let t := s.chainRequest h k expected new o
    (¬found → t = s)
    ∧ (found → (∀ j : SlotId, t.slot j =
        if (s.slot j).chainHead = some h then { s.slot j with state := new, outcome := o, hold := false } else s.slot j)
      ∧ (o = none → t.events = s.events)
      ∧ ∀ r p, o = some r → (s.slot h).owner = some p → t.events = (s.raise p (.ended h r)).events)

/-! ## Connection -/

/-- R47, R49: CONNECT, with the carrier on at the command in ANSWER and LOOP. The sample clock at 0 at the carrier-on
is the model's choice (assumption 35); that a carrier-on takes with it a carrier-off that still waits for its sample
is the model's reading (assumption 42, DEDUCED). -/
def Obligations.ConnectStartsAnAttempt : Prop :=
  ∀ (s : State) (p : Port) (b : Byte), s.portServes p = true →
    (3 ≤ b.toNat → exec (.connect p b) s = .next (s.answeredOnly p .badArg))
    ∧ (b.toNat ≤ 2 → s.sup.state ≠ .idle → exec (.connect p b) s = .next (s.answeredOnly p .lineBusy))
    ∧ (s.sup.state = .idle →
      ∀ m st r, (b, m, st, r) ∈ [((0 : Byte), Mode.originate, SupState.calling, LineReason.calling),
          (1, .answer, .answering, .answering), (2, .loop, .calling, .calling)] →
        let starts : Prop := m ≠ Mode.originate ∧ (s.modem.modulator = Modulator.off ∨ s.modem.offDue = true)
        exec (.connect p b) s = .next (({ s.attach p with
          modem.mode := m
          modem.modulator := if starts then .markIdle else s.modem.modulator
          modem.offDue := if starts then false else s.modem.offDue
          modem.phase := if starts then 0 else s.modem.phase
          modem.sampleClock := if starts then 0 else s.modem.sampleClock
          sup.state := st
          sup.connectTimer := some (s.settings.connectTimeout * 1000000)
          sup.reason := r }.raiseBoth (.line st r)).respond p ⟨.ok, []⟩))

/-- R54 and R58: HANG UP by its manner and the supervisor's state. -/
def Obligations.HangUpByState : Prop :=
  ∀ (s : State) (p : Port) (b : Byte), s.portServes p = true →
    let s1 := s.attach p
    let clearing : State := { s1 with
      sup.state := .clearing
      sup.clearing := some ⟨s.sched.sendQueue.map (·.head) ++ (s.activeChain.map (·.head)).toList,
        s.sched.keyFifo.map (·.entry)⟩
      sup.clearingTimer := some 120000000 }
    let outstanding : Prop := s.sched.sendQueue ≠ [] ∨ s.activeChain ≠ none ∨ s.sched.keyFifo ≠ []
      ∨ s.sched.turn ≠ .none ∨ s.modem.modulator ≠ .markIdle
    (2 ≤ b.toNat → exec (.hangUp p b) s = .next (s.answeredOnly p .badArg))
    ∧ (b.toNat ≤ 1 → s.sup.state = .idle → exec (.hangUp p b) s = .next (s.answeredOnly p .lineIdle))
    ∧ (b = 1 ∧ s.sup.state ≠ .idle ∨ b = 0 ∧ (s.sup.state = .calling ∨ s.sup.state = .answering) →
      exec (.hangUp p b) s = .next (((s1.failActive .hungUp).goIdle .hungUp).respond p ⟨.ok, []⟩))
    ∧ (s.sup.state = .clearing → exec (.hangUp p 0) s = .next (s.answeredOnly p .ok))
    ∧ (s.sup.state = .online → outstanding →
      exec (.hangUp p 0) s = .next ({ clearing with sup.reason := .clearing }.raiseBoth (.line .clearing .clearing)
        |>.respond p ⟨.ok, []⟩))
    ∧ (s.sup.state = .online → ¬outstanding →
      exec (.hangUp p 0) s = .next ((clearing.goIdle .cleared).respond p ⟨.ok, []⟩))

/-- R59: LINE RESET, from any state, fails the ACTIVE chain and returns the line side to its starting condition; the
send queue, the masks, the counters, the settings, the keyboard, the engine, the monitor and the print side's own
state are kept. A record under assembly is counted as discarded (R71). The pending drain marks are judged again, with
nothing left of the key-to-line FIFO and of the receive direct FIFO (R108, R145); when both marks of a port complete,
which of the two DRAINED details stands is the model's choice (assumption 37). That the sample position is 0 outside a
character is the model's choice (assumption 45). -/
def Obligations.LineResetReturnsTheLineSide : Prop :=
  ∀ (s : State) (p : Port), s.portServes p = true →
    ∃ t : State, exec (.lineReset p) s = .next (t.respond p ⟨.ok, []⟩)
      ∧ t = { s.attach p with
          slots := (s.failActive .lineReset).slots
          modem := Modem.reset
          sup := ⟨.idle, none, none, none, .reset⟩
          parser := { s.parser with
            state := .text, replies := [], fifo := [], silence := ⟨none, false⟩, localFlow := .xon, pendingFlow := none,
            counters.discarded := if s.parser.state.assembling then min 65535 (s.parser.counters.discarded + 1)
              else s.parser.counters.discarded }
          sched := { s.sched with
            keyFifo := [], turn := .none, holdWait := none, replyTimer := none, withdrawalPending := false,
            answerbackPending := false, breakRequest := .none, remoteFlow := .xon, flowTimer := none, handed := none,
            marks := t.sched.marks }
          arb := { s.arb with marks := t.arb.marks }
          events := t.events }
      ∧ ∀ q : Port,
        let line (n : Nat) : Prop := s.sched.marks.get q = .pending n ∧ ∀ x ∈ s.sched.sendQueue, n < x.entry
        let print (r : MarkRecord) : Prop := s.arb.marks.get q = .pending r ∧ (∀ e ∈ s.printEntries, r.number < e)
          ∧ r.lcs = 0 ∧ r.feeds = 0 ∧ r.lineOwed = false
        let u := s.events.get q
        let v := t.events.get q
        (∀ n, line n → t.sched.marks.get q = .complete)
        ∧ ((∀ n, ¬line n) → t.sched.marks.get q = s.sched.marks.get q)
        ∧ (∀ r, print r → t.arb.marks.get q = .complete)
        ∧ ((∀ r, ¬print r) → t.arb.marks.get q = (s.arb.marks.get q).change fun r => { r with lds := 0 })
        ∧ v = { u with sources := v.sources }
        ∧ v.sources[(4 : Fin 8)] = some ⟨.line .idle .reset, min 255 (u.occurrences 4 + 1)⟩
        ∧ v.sources[(0 : Fin 8)] = ((s.failActive .lineReset).events.get q).sources[(0 : Fin 8)]
        ∧ (∀ n : Fin 8, n ≠ 0 → n ≠ 4 → n ≠ 5 → v.sources[n] = u.sources[n])
        ∧ ((∀ n, ¬line n) → (∀ r, ¬print r) → v.sources[(5 : Fin 8)] = u.sources[(5 : Fin 8)])
        ∧ (∀ n, line n → (∀ r, ¬print r) →
          v.sources[(5 : Fin 8)] = some ⟨.drained .line, min 255 (u.occurrences 5 + 1)⟩)
        ∧ (∀ r, (∀ n, ¬line n) → print r →
          v.sources[(5 : Fin 8)] = some ⟨.drained .print, min 255 (u.occurrences 5 + 1)⟩)
        ∧ ∀ n r, line n → print r → ∃ path,
          v.sources[(5 : Fin 8)] = some ⟨.drained path, min 255 (u.occurrences 5 + 2)⟩

/-- R48: the effects of every entry to IDLE, whatever its cause and reason, and what it keeps. The carrier-off request
waits for the next modulator sample (R29, R32); in OFF it changes nothing. That the sample position is 0 outside a
character is the model's choice (assumption 45). -/
def Obligations.EntryToIdle : Prop :=
  ∀ (s : State) (r : LineReason),
    let t := s.goIdle r
    t.sup.state = .idle ∧ t.sup.reason = r ∧ t.sup.connectTimer = none ∧ t.sup.clearingTimer = none
    ∧ t.sup.clearing = none
    ∧ t.modem = { s.modem with
        offDue := if s.modem.modulator = .off then s.modem.offDue else true
        carrier := .absent, qualifyTimer := none, silenceTimer := none, requalifyTimer := none, fadeTimer := none,
        level := .mark, sampler := ⟨.suspended, 0, [], 0⟩ }
    ∧ t.sched = { s.sched with
        turn := .none, holdWait := none, replyTimer := none, withdrawalPending := false, answerbackPending := false,
        breakRequest := .none, remoteFlow := .xon, flowTimer := none, handed := none, marks := t.sched.marks }
    ∧ t.parser = { s.parser with
        state := .text, replies := [], pendingFlow := none,
        counters.discarded := if s.parser.state.assembling then min 65535 (s.parser.counters.discarded + 1)
          else s.parser.counters.discarded }
    ∧ (∀ q n, s.sched.marks.get q = .pending n →
        t.sched.marks.get q =
          if ∀ e ∈ s.sched.sendQueue.map (·.entry) ++ s.sched.keyFifo.map (·.entry), n < e then .complete
          else .pending n)
    ∧ (∀ q, (∀ n, s.sched.marks.get q ≠ .pending n) → t.sched.marks.get q = s.sched.marks.get q)
    ∧ (∀ q, (t.events.get q).sources[(4 : Fin 8)] =
        some ⟨.line .idle r, min 255 ((s.events.get q).occurrences 4 + 1)⟩)
    ∧ t.slots = s.slots ∧ t.kbd = s.kbd ∧ t.arb = s.arb ∧ t.engine = s.engine ∧ t.settings = s.settings
    ∧ t.pending = s.pending

/-- R52, R53, R57: the timers that end a connection or an attempt, with the outcome of a chain ACTIVE on the line: the
cause's, or WITHDRAWN while a withdrawal is pending (R101). That a timer's expiry is taken whenever the timer runs is
the model's choice (assumption 2). That the sample position is 0 outside a character is the model's choice (assumption
45). -/
def Obligations.TimersEndTheConnection : Prop :=
  (∀ s : State, (s.sup.state = .calling ∨ s.sup.state = .answering) → s.sup.connectTimer ≠ none →
    exec .connectTimerExpired s = .next (s.goIdle .noAnswer))
  ∧ (∀ s : State, s.sup.state = .clearing → s.sup.clearingTimer ≠ none →
    exec .clearingTimerExpired s = .next ((s.failActive .hungUp).goIdle .clearTimeout))
  ∧ (∀ s : State, s.modem.carrier = .fading → s.modem.fadeTimer ≠ none →
    let absent : State := { s with
      modem.carrier := .absent, modem.qualifyTimer := none, modem.silenceTimer := none, modem.requalifyTimer := none,
      modem.fadeTimer := none, modem.level := .mark, modem.sampler := ⟨.suspended, 0, [], 0⟩ }
    ((s.sup.state = .online ∨ s.sup.state = .clearing) →
      exec .fadeTimerExpired s = .next ((absent.failActive .lineLost).goIdle .lost))
    ∧ (s.sup.state ≠ .online → s.sup.state ≠ .clearing → exec .fadeTimerExpired s = .next absent))
  ∧ ∀ (s : State) (o : EndOutcome),
    (s.activeChain = none → s.failActive o = s)
    ∧ ∀ ct, s.activeChain = some ct → s.failActive o =
      if s.sched.withdrawalPending = true then s.chainRequest ct.head .send [.active] .aborted (some .withdrawn)
      else s.chainRequest ct.head .send [.active] .failed (some o)

/-- R36 to R38, R44, R50, R51: the carrier's own timers. The qualify run brings PRESENT, and ONLINE from an attempt;
the silence timer brings FADING with one gap for the parser; the requalify timer brings PRESENT back unreported. The
expiries are taken as assumption 2 says, and the sample clock at 0 at the carrier-on is the model's (assumption 35),
and so is a carrier-off still waiting there (assumption 42, DEDUCED). That the sample position is 0 outside a
character is the model's choice (assumption 45). -/
def Obligations.CarrierTimers : Prop :=
  ∀ s : State,
    let present : State := { s with
      modem.carrier := .present, modem.qualifyTimer := none, modem.silenceTimer := some 20000,
      modem.requalifyTimer := none, modem.fadeTimer := none, modem.level := .mark, modem.sampler := ⟨.hunt, 0, [], 0⟩ }
    (s.modem.carrier = .qualifying → s.modem.qualifyTimer ≠ none →
      ((s.sup.state = .calling ∨ s.sup.state = .answering) →
        let starts : Prop := s.modem.modulator = Modulator.off ∨ s.modem.offDue = true
        exec .qualifyRunExpired s = .next ({ present with
          modem.modulator := if starts then .markIdle else s.modem.modulator
          modem.offDue := if starts then false else s.modem.offDue
          modem.phase := if starts then 0 else s.modem.phase
          modem.sampleClock := if starts then 0 else s.modem.sampleClock
          sup.state := .online
          sup.connectTimer := none
          sup.reason := .online
          parser.pendingFlow := if s.parser.localFlow = Flow.xoff then some .xoff else s.parser.pendingFlow
          }.raiseBoth (.line .online .online)).beep.settle)
      ∧ (s.sup.state ≠ .calling → s.sup.state ≠ .answering → exec .qualifyRunExpired s = .next present))
    ∧ (s.modem.carrier = .present → s.modem.silenceTimer ≠ none →
      exec .silenceTimerExpired s = .next (({ s with
        modem.carrier := .fading, modem.silenceTimer := none, modem.requalifyTimer := none,
        modem.fadeTimer := some (s.settings.fadeTime * 1000), modem.level := .mark,
        modem.sampler := ⟨.suspended, 0, [], 0⟩ }.toSink 0x1A true).breakRecord.settle))
    ∧ (s.modem.carrier = .fading → s.modem.requalifyTimer ≠ none → exec .requalifyTimerExpired s = .next present)

/-- R33 to R38: a recorded half-period, from a crossing or from the counter at 4095, makes a full period with the one
before it; the period moves the decided level with its hysteresis, and the carrier status. That the operand of
ZERO_CROSSING counts the ticks beyond the counter is the model's (assumption 4), and so is that ZERO_CROSSING stands
for a crossing of the microphone alone (assumption 25), which LOOP ignores (R27, R46); there the modulator's own
output crosses zero, at a tick. The speaker is driven by the sine of the phase, and is at rest with the carrier off
and in LOOP (R27 to R29). -/
def Obligations.HalfPeriods : Prop :=
  (∀ s : State, (∀ n, s.modem.mode = .loop → exec (.zeroCrossing n) s = .next s)
    ∧ ((s.modem.modulator = .off ∨ s.modem.mode = .loop) → s.speakerDrive = .rest)
    ∧ (s.modem.modulator ≠ .off → s.modem.mode ≠ .loop → s.speakerDrive = .sine s.modem.phase))
  ∧ ∀ (s : State) (i : Instr) (h : Nat), s.power ≠ .held →
    ((∃ n, s.modem.mode ≠ .loop ∧ i = .zeroCrossing n ∧ h = min (s.modem.crossing + n) 4095)
      ∨ (i = .crossingCounter4095 ∧ h = 4095)) →
    let p := h + s.modem.hPrev
    let high : Prop := s.modem.mode = Mode.originate
    let inside : Prop := (high ∧ 400 ≤ p ∧ p ≤ 540) ∨ (¬high ∧ 760 ≤ p ∧ p ≤ 1120)
    ∃ m : Modem, exec i s = .next { s with modem := m }
      ∧ m = { s.modem with
          hPrev := h, crossing := 0, level := m.level, carrier := m.carrier, qualifyTimer := m.qualifyTimer,
          silenceTimer := m.silenceTimer, requalifyTimer := m.requalifyTimer }
      ∧ (s.modem.carrier ≠ .present ∨ ¬inside → m.level = s.modem.level)
      ∧ (s.modem.carrier = .present → inside →
        (s.modem.level = .mark → (m.level = .space ↔ (high ∧ 476 ≤ p) ∨ (¬high ∧ 942 ≤ p)))
        ∧ (s.modem.level = .space → (m.level = .mark ↔ (high ∧ p < 460) ∨ (¬high ∧ p < 926))))
      ∧ (s.modem.carrier = .absent → m.silenceTimer = s.modem.silenceTimer
        ∧ m.requalifyTimer = s.modem.requalifyTimer
        ∧ (inside ∧ s.sup.state ≠ .idle →
          m.carrier = .qualifying ∧ m.qualifyTimer = some (s.settings.qualifyTime * 1000))
        ∧ (¬inside ∨ s.sup.state = .idle → m.carrier = .absent ∧ m.qualifyTimer = s.modem.qualifyTimer))
      ∧ (s.modem.carrier = .qualifying → m.silenceTimer = s.modem.silenceTimer
        ∧ m.requalifyTimer = s.modem.requalifyTimer
        ∧ (inside → m.carrier = .qualifying ∧ m.qualifyTimer = s.modem.qualifyTimer)
        ∧ (¬inside → m.carrier = .absent ∧ m.qualifyTimer = none))
      ∧ (s.modem.carrier = .present → m.carrier = .present ∧ m.qualifyTimer = s.modem.qualifyTimer
        ∧ m.requalifyTimer = s.modem.requalifyTimer
        ∧ (inside → m.silenceTimer = some 20000) ∧ (¬inside → m.silenceTimer = s.modem.silenceTimer))
      ∧ (s.modem.carrier = .fading → m.carrier = .fading ∧ m.qualifyTimer = s.modem.qualifyTimer
        ∧ m.silenceTimer = s.modem.silenceTimer
        ∧ (inside → s.modem.requalifyTimer = none → m.requalifyTimer = some 20000)
        ∧ (inside → s.modem.requalifyTimer ≠ none → m.requalifyTimer = s.modem.requalifyTimer)
        ∧ (¬inside → m.requalifyTimer = none))

/-- R30 against R41 and R42: in every format, the frame the modulator sends for a byte, read 16 times a line bit by a
sampler in HUNT, hands the parser exactly that byte, unflawed, and leaves the sampler in HUNT. That the sample
position is 0 and the bits are cleared outside a character is the model's choice (assumption 45). -/
def Obligations.FramesAreReceivedAsSent : Prop :=
  ∀ (t : Settings) (b : Byte), (t.dataBits = 7 ∨ t.dataBits = 8) → (t.stopBits = 1 ∨ t.stopBits = 2) →
    samplerRun t ⟨.hunt, 0, [], 0⟩ (frameSamples t b) =
      (⟨.hunt, 0, [], 0⟩, [.character (if t.dataBits = 7 then b &&& 0x7F else b) false])

/-- R40 to R43, R64: what the bit sampler does at a sample, in each of its states, and what it completes. START counts
to position 8, DATA takes a bit every 16 positions and hands the character at the stop bit, with bit 7 clear at 7 data
bits and the flaw mark set by a wrong parity or a space stop bit; WAIT_MARK and BREAK end at a mark. A break abandons
the record under assembly and raises BREAK_RECEIVED. Which of the rows of the command table does what is assumption 9.
That the sample position is 0 and the bits are cleared outside a character is the model's choice (assumption 45). -/
def Obligations.SamplerCommands : Prop :=
  (∀ (s : State) (b : Byte) (pf ss : Bool), s.modem.sampler.receiving = true →
    let s1 : State := { s with modem.sampler :=
      if ss then ⟨.waitMark, 0, [], s.modem.sampler.spaceRun + 1⟩ else ⟨.hunt, 0, [], 0⟩ }
    exec (.characterReceived b pf ss) s = .next (s1.settleAfter (s1.takeCharacter
      (if s.settings.dataBits = 7 then b &&& 0x7F else b) ((pf && decide (s.settings.parity ≠ .none)) || ss))))
  ∧ (∀ s : State, s.modem.sampler.receiving = true →
    exec .breakReceived s = .next ({ s with
      modem.sampler := ⟨.breaking, 0, [], 2 * (16 * (1 + s.settings.dataBits
        + (if s.settings.parity = Parity.none then 0 else 1) + s.settings.stopBits))⟩
      parser.state := .text
      parser.counters.discarded := if s.parser.state.assembling then bump s.parser.counters.discarded
        else s.parser.counters.discarded }.alertBoth .breakReceived))
  ∧ (∀ s : State, s.modem.sampler.state = .breaking →
    exec .breakEnd s = .next { s with modem.sampler := ⟨.hunt, 0, [], 0⟩ })
  ∧ ∀ s : State,
    let x := s.modem.sampler
    let bits := s.settings.dataBits + (if s.settings.parity = Parity.none then 0 else 1)
    let f := 16 * (1 + bits + s.settings.stopBits)
    let run := if s.modem.level = .space then x.spaceRun + 1 else 0
    let moves (y : Sampler) : Prop := exec .bitSamplerSample s = .next { s with modem.sampler := y }
    (x.state = .suspended → exec .bitSamplerSample s = .next s)
    ∧ (x.state = .hunt → s.modem.level = .mark → 0 < f →
      exec .bitSamplerSample s = .next { s with modem.sampler := ⟨.hunt, 0, [], 0⟩ })
    ∧ (x.state = .hunt → s.modem.level = .space → x.spaceRun + 1 < 2 * f →
      exec .bitSamplerSample s = .next { s with modem.sampler := ⟨.start, 1, [], x.spaceRun + 1⟩ })
    ∧ (x.state = .start → x.position = 7 → s.modem.level = .mark → 0 < f →
      exec .bitSamplerSample s = .next { s with modem.sampler := ⟨.hunt, 0, [], 0⟩ })
    ∧ (x.state = .start → x.position = 7 → s.modem.level = .space → x.spaceRun + 1 < 2 * f →
      exec .bitSamplerSample s = .next { s with modem.sampler := ⟨.data, 8, [], x.spaceRun + 1⟩ })
    ∧ (x.state = .start → x.position < 7 → run < 2 * f → moves ⟨.start, x.position + 1, [], run⟩)
    ∧ (x.state = .data → 8 ≤ x.position → run < 2 * f → x.position + 1 ≠ 8 + 16 * (bits + 1) →
      ((x.position + 1) % 16 = 8 →
        moves ⟨.data, x.position + 1, x.bits ++ [decide (s.modem.level = .mark)], run⟩)
      ∧ ((x.position + 1) % 16 ≠ 8 → moves ⟨.data, x.position + 1, x.bits, run⟩))
    ∧ (x.state = .data → run < 2 * f → x.position + 1 = 8 + 16 * (bits + 1) → x.bits.length = bits →
      s.settings.dataBits ≤ 8 → ∃ (b : Byte) (flawed : Bool),
      (let s1 : State := { s with
        modem.sampler := ⟨if s.modem.level = .mark then .hunt else .waitMark, 0, [], run⟩ }
      exec .bitSamplerSample s = .next (s1.settleAfter (s1.takeCharacter b flawed)))
      ∧ (∀ k < 8, b.getLsbD k = (decide (k < s.settings.dataBits) && x.bits.getD k false))
      ∧ (flawed = true ↔ s.modem.level = .space
        ∨ (s.settings.parity = .even ∧ (x.bits.filter id).length % 2 = 1)
        ∨ (s.settings.parity = .odd ∧ (x.bits.filter id).length % 2 = 0)
        ∨ (s.settings.parity = .mark ∧ x.bits[s.settings.dataBits]? = some false)))
    ∧ (x.state = .waitMark → s.modem.level = .mark → 0 < f → moves ⟨.hunt, 0, [], 0⟩)
    ∧ (x.state = .waitMark → s.modem.level = .space → x.spaceRun + 1 < 2 * f →
      moves ⟨.waitMark, 0, [], x.spaceRun + 1⟩)
    ∧ (x.state = .breaking → s.modem.level = .mark → moves ⟨.hunt, 0, [], 0⟩)
    ∧ (x.state = .breaking → s.modem.level = .space →
      exec .bitSamplerSample s = .next { s with modem.sampler := { x with spaceRun := x.spaceRun + 1 } })
    ∧ (x.state ≠ .suspended → x.state ≠ .breaking → s.modem.level = .space → x.spaceRun + 1 = 2 * f →
      exec .bitSamplerSample s = .next ({ s with
        modem.sampler := ⟨.breaking, 0, [], 2 * f⟩
        parser.state := .text
        parser.counters.discarded := if s.parser.state.assembling then bump s.parser.counters.discarded
          else s.parser.counters.discarded }.alertBoth .breakReceived))

/-! ## Receive parser -/

/-- R64, R65: every character is counted, a flawed one twice over. An unflawed in-line control leaves the parser's
state, the FIFO, the reply queue and the slots' filing alone and acts on the scheduler: XOFF and XON on the remote
flow state (R102), ENQ on the answerback-pending flag, ACK and NAK on a reply wait, and on the stray counter without
one. In a reply wait an ACK accepts the record, so that the next member's follows or the chain is complete, DONE with
SENT or COPYING with a copy job (R98, R99); a NAK has the record sent again, or fails the chain with REFUSED when its
attempts are used up (R98). -/
def Obligations.InLineControls : Prop :=
  ∀ (s : State) (b : Byte) (flawed : Bool),
    let t := s.takeCharacter b flawed
    t.parser.counters.received = min 65535 (s.parser.counters.received + 1)
    ∧ t.parser.counters.flawed = (if flawed then min 65535 (s.parser.counters.flawed + 1) else s.parser.counters.flawed)
    ∧ (flawed = false → b ∈ [(0x11 : Byte), 0x13, 0x06, 0x15, 0x05] →
      t.parser.state = s.parser.state ∧ t.parser.fifo = s.parser.fifo ∧ t.parser.replies = s.parser.replies
        ∧ t.parser.localFlow = s.parser.localFlow ∧ t.parser.pendingFlow = s.parser.pendingFlow)
    ∧ (flawed = false → b = 0x13 → t.slots = s.slots ∧ t.sched = { s.sched with
        remoteFlow := .xoff
        flowTimer := if s.sched.remoteFlow = .xoff then s.sched.flowTimer
          else if s.settings.flowLimit = 0 then none else some (s.settings.flowLimit * 1000000) })
    ∧ (flawed = false → b = 0x11 → t.slots = s.slots ∧ t.sched = { s.sched with
        remoteFlow := .xon, flowTimer := if s.sched.remoteFlow = .xoff then none else s.sched.flowTimer })
    ∧ (flawed = false → b = 0x05 → t.slots = s.slots ∧ t.sched.answerbackPending = true
      ∧ (s.sched.answerbackPending = true → t.sched = s.sched)
      ∧ ∀ h w, s.sched.answerbackPending = false → s.sched.holdWait = some ⟨.chain h, w⟩ → t.sched.holdWait = none)
    ∧ (flawed = false → b = 0x06 ∨ b = 0x15 → s.replyWait = none →
      t.slots = s.slots ∧ t.sched = s.sched
        ∧ t.parser.counters.stray = min 65535 (s.parser.counters.stray + 1))
    ∧ ∀ ct, flawed = false → s.replyWait = some ct →
      let x := s.slot ct.member
      let h := ct.head
      let s1 : State := { s with parser.counters.received := min 65535 (s.parser.counters.received + 1) }
      let ended : State := { s1 with sched.turn := .none, sched.withdrawalPending := false, sched.replyTimer := none }
      let active : Prop :=
        (s.slot h).chainHead = some h ∧ (s.slot h).kind = some .send ∧ (s.slot h).state = .active
      (b = 0x06 →
        (∀ m, x.successor = some m → t = { s1 with
          sched.turn := .chain { ct with member := m, phase := .between false }, sched.replyTimer := none })
        ∧ (x.successor = none → (s.slot h).copy = false →
          t = ((ended.chainRequest h .send [.active] .done (some .sent)).clearingDropChain h).testLineMarks)
        ∧ (x.successor = none → (s.slot h).copy = true → active →
          t = (((ended.chainRequest h .send [.active] .copying none).enterPrintQueue .copy h).clearingDropChain
            h).testLineMarks)
        ∧ (x.successor = none → (s.slot h).copy = true → ¬active → t = (ended.clearingDropChain h).testLineMarks))
      ∧ (b = 0x15 →
        (x.attempts < s.settings.attemptLimit → t = { s1 with
          sched.turn := .chain { ct with phase := .between false }, sched.replyTimer := none })
        ∧ (s.settings.attemptLimit ≤ x.attempts →
          t = ((ended.chainRequest h .send [.active] .failed (some .refused)).clearingDropChain h).testLineMarks))

/-- R64 and R66 to R71: what the parser does with a character that is no in-line control before the check byte. In
TEXT it is open text, sounds the beeper, begins a record or is dropped (R66); in ROUTE and CLASS it is stored or
abandons the record (R67); in BODY it is stored, ends the text, or abandons the record (R68); DISCARD skips the rest
of an abandoned record (R69). A gap passes a flawed SUB to the sink, and it and a break abandon a record under
assembly (R70); each record abandoned is counted once (R71). -/
def Obligations.DiscardSkipsTheRecord : Prop :=
  (∀ (s : State) (b : Byte) (flawed : Bool), ¬(flawed = false ∧ b ∈ [(0x11 : Byte), 0x13, 0x06, 0x15, 0x05]) →
    let t := s.takeCharacter b flawed
    let counted : State := { s with
      parser.counters.received := min 65535 (s.parser.counters.received + 1)
      parser.counters.flawed := if flawed then min 65535 (s.parser.counters.flawed + 1)
        else s.parser.counters.flawed }
    let entered (x : ParserState) : State := { counted with parser.state := x }
    let abandoned (x : ParserState) : State := { counted with
      parser.state := x, parser.counters.discarded := min 65535 (s.parser.counters.discarded + 1) }
    let printable : Prop := 0x20 ≤ b.toNat ∧ b.toNat ≤ 0x7E
    let layout : Prop := b ∈ [(0x09 : Byte), 0x08, 0x0A, 0x0C, 0x0D]
    (s.parser.state = .text →
      (flawed = true → t = counted.toSink b true)
      ∧ (flawed = false → b = 0x01 → t = entered .route)
      ∧ (flawed = false → b = 0x07 → t = counted.beep)
      ∧ (flawed = false → printable ∨ layout → t = counted.toSink b false)
      ∧ (flawed = false → b ≠ 0x01 → b ≠ 0x07 → ¬printable → ¬layout → t = counted))
    ∧ (s.parser.state = .route →
      let code := b &&& 0x7F
      let routed : Prop := flawed = false
        ∧ ((0x41 ≤ code.toNat ∧ code.toNat ≤ 0x5A) ∨ (0x30 ≤ code.toNat ∧ code.toNat ≤ 0x39))
      (routed → t = entered (.cls code)) ∧ (¬routed → t = abandoned .text))
    ∧ (∀ route, s.parser.state = .cls route →
      (flawed = false → b = 0x43 → t = entered (.body route .c [] (route ^^^ b)))
      ∧ (flawed = false → b = 0x4E → t = entered (.body route .n [] (route ^^^ b)))
      ∧ (flawed = true ∨ (b ≠ 0x43 ∧ b ≠ 0x4E) → t = abandoned .text))
    ∧ ∀ route k text running, s.parser.state = .body route k text running →
      let stored : Prop := flawed = true ∨ printable ∨ b = 0x09
      (stored → text.length < 80 → t = entered (.body route k (text ++ [⟨b, flawed⟩]) (running ^^^ b)))
      ∧ (stored → 80 ≤ text.length → t = abandoned (.discard false))
      ∧ (¬stored → b = 0x03 → t = entered (.check route k text running))
      ∧ (¬stored → b = 0x01 → t = abandoned .route)
      ∧ (¬stored → b = 0x18 → t = abandoned .text)
      ∧ (¬stored → b ∉ [(0x03 : Byte), 0x01, 0x18] → t = abandoned (.discard false)))
  ∧ (∀ s : State,
    (s.parser.state = .text → s.takeGap = s.toSink 0x1A true ∧ s.takeBreak = s.alertBoth .breakReceived)
    ∧ (s.parser.state ≠ .text → (∀ due, s.parser.state ≠ .discard due) →
      s.takeGap = { s.toSink 0x1A true with
        parser.state := .text, parser.counters.discarded := min 65535 (s.parser.counters.discarded + 1) }
      ∧ s.takeBreak = { s with
        parser.state := .text
        parser.counters.discarded := min 65535 (s.parser.counters.discarded + 1) }.alertBoth .breakReceived))
  ∧ ∀ (s : State) (due : Bool), s.parser.state = .discard due →
    (∀ (b : Byte) (flawed : Bool),
      let t := s.takeCharacter b flawed
      let counted (x : ParserState) : Parser := { s.parser with
        state := x
        counters.received := min 65535 (s.parser.counters.received + 1)
        counters.flawed := if flawed then min 65535 (s.parser.counters.flawed + 1) else s.parser.counters.flawed }
      (flawed = false ∧ b ∈ [(0x11 : Byte), 0x13, 0x06, 0x15, 0x05] → t.parser.state = .discard due)
      ∧ (¬(flawed = false ∧ b ∈ [(0x11 : Byte), 0x13, 0x06, 0x15, 0x05]) →
        (due = false → flawed = false → b = 0x03 → t = { s with parser := counted (.discard true) })
        ∧ (due = false → flawed = false → b = 0x01 → t = { s with parser := counted .route })
        ∧ (due = false → (flawed = true ∨ (b ≠ 0x03 ∧ b ≠ 0x01)) → t = { s with parser := counted (.discard false) })
        ∧ (due = true → t = { s with parser := counted .text })))
    ∧ s.takeGap = { s.toSink 0x1A true with parser.state := .text }
    ∧ s.takeBreak = { s with parser.state := .text }.alertBoth .breakReceived
    ∧ s.enterIdle.parser.state = .text ∧ s.enterIdle.parser.counters = s.parser.counters

/-- R73, with R72's check and R74's queue: the check byte decides a record's fate, and the parser enters TEXT. That
the low 7 bits of the byte are held against the whole computed check, so that a check of 0x80 or more is never GOOD,
is the model's reading (assumption 22, DEDUCED). -/
def Obligations.CheckByteDecides : Prop :=
  ∀ (s : State) (route : Byte) (k : RecordClass) (text : List RxByte) (running : Byte),
    s.parser.state = .check route k text running →
    (∀ (b : Byte) (flawed : Bool), ¬(flawed = false ∧ b ∈ [(0x11 : Byte), 0x13, 0x06, 0x15, 0x05]) →
      let good : Bool := !flawed && decide (b &&& 0x7F = if running < 0x20 then running + 0x20 else running)
      let s1 : State := { s with
        parser.state := .text
        parser.counters.received := min 65535 (s.parser.counters.received + 1)
        parser.counters.flawed := if flawed then min 65535 (s.parser.counters.flawed + 1)
          else s.parser.counters.flawed }
      let reply (t : State) (r : Reply) : State :=
        { t with parser.replies := if t.parser.replies.length < 4 then t.parser.replies ++ [r] else t.parser.replies }
      let t := s.takeCharacter b flawed
      (k = .n → t = (s1.file ⟨route, .n, !good, text⟩).1)
      ∧ (k = .c → good = true → (∀ x ∈ text, x.flawed = false) →
        let filed := s1.file ⟨route, .c, false, text⟩
        t = if filed.2 then reply filed.1 .ack else reply filed.1 .nak)
      ∧ (k = .c → (good = false ∨ ∃ x ∈ text, x.flawed = true) →
        t = reply { s1 with parser.counters.discarded := min 65535 (s.parser.counters.discarded + 1) } .nak))
    ∧ s.takeGap.parser.state = .text ∧ s.takeBreak.parser.state = .text
    ∧ s.takeBreak.parser.counters.discarded = min 65535 (s.parser.counters.discarded + 1)

/-- R75, R76 and R26: where a record goes, what it leaves in its slot, and what is counted and raised. That the text
area keeps its old bytes behind the record's length is the model's choice (assumption 41). -/
def Obligations.RecordsAreFiled : Prop :=
  ∀ (s : State) (r : Offered),
    let route (i : SlotId) : Prop := (s.slot i).kind = some .receive
      ∧ ((s.slot i).route = r.route ∨ (s.slot i).route = 0x2A)
    let armed (i : SlotId) : Prop := route i ∧ (s.slot i).state = .armed
    let replaced (i : SlotId) : Prop :=
      route i ∧ (s.slot i).state = .pending ∧ (s.slot i).protect = false ∧ (s.slot i).job = .absent
    let matched (i : SlotId) : Prop := route i ∧ ((s.slot i).state = .armed ∨ (s.slot i).state = .pending)
    let filed (i : SlotId) (again : Bool) : Prop :=
      let t := (s.file r).1
      (s.file r).2 = true
      ∧ t.slots = s.slots.set i { s.slot i with
          state := .pending
          text := Vector.ofFn fun q : Fin 80 => ((r.text[q.val]?).map (·.byte)).getD (s.slot i).text[q]
          length := r.text.length
          flaws := (t.slot i).flaws
          record := some ⟨r.route, r.cls, r.bad, again⟩
          job := if (s.slot i).autoprint then .waiting else (s.slot i).job }
      ∧ (∀ q < 80, (t.slot i).flaws.getLsbD q = ((r.text[q]?).map (·.flawed)).getD false)
      ∧ t.parser = { s.parser with counters.filed := min 65535 (s.parser.counters.filed + 1) }
      ∧ (∀ p, (s.slot i).owner = some p → t.events =
          (s.raise p (if again then .lost .overwritten i r.route else .received i r.route)).events
        ∧ t.arb.queue = s.arb.queue ++
          (if (s.slot i).autoprint then [⟨.auto, i, p, (s.slot i).priority, s.arb.issued + 1⟩] else []))
    (∀ i, armed i → (∀ j < i, ¬armed j) → filed i false)
    ∧ (∀ i, (∀ j, ¬armed j) → replaced i → (∀ j < i, ¬replaced j) → filed i true)
    ∧ (∀ i p, (∀ j, ¬armed j ∧ ¬replaced j) → matched i → (∀ j < i, ¬matched j) → (s.slot i).owner = some p →
      s.file r = ({ s with parser.counters.lost := min 65535 (s.parser.counters.lost + 1) }.raise p
        (.lost .dropped i r.route), false))
    ∧ ((∀ j, ¬matched j) →
      s.file r = ({ s with parser.counters.unrouted := min 65535 (s.parser.counters.unrouted + 1) }, false))

/-- R96 against R67, R68, R72 and R73: the characters of a record as the scheduler sends them, taken unflawed by a
parser in TEXT, give exactly that record for filing with a GOOD check, and the reply its class asks for. -/
def Obligations.RecordsAreReceivedAsSent : Prop :=
  ∀ (s : State) (t : Settings) (x : Slot), s.parser.state = .text → isRouteCode x.route = true →
    (t.dataBits = 7 ∨ t.dataBits = 8) →
    let text : List RxByte := (keptBytes t recordSent x.content).map fun b => ⟨b, false⟩
    let received := (recordCharacters t x).foldl (fun u b => u.takeCharacter b false) s
    let s1 : State := { s with parser.counters.received := received.parser.counters.received }
    let filed := s1.file ⟨x.route, x.cls, false, text⟩
    received = if x.cls = .n then filed.1 else filed.1.queueReply (if filed.2 then .ack else .nak)

/-- R77, R78 and R81: a byte enters the FIFO, is dropped at a full FIFO or is dropped at DISCARD; the occupancy turns
the local flow state, which is owed to the remote as the pending flow control while the line is served. -/
def Obligations.LocalFlowFollowsTheFifo : Prop :=
  ∀ (s : State) (b : Byte) (flawed : Bool),
    let n := s.parser.fifo.length
    let served : Prop := s.sup.state = .online ∨ s.sup.state = .clearing
    (s.settings.sink = .discard → s.toSink b flawed =
      { s with parser.counters.openDropped := min 65535 (s.parser.counters.openDropped + 1) })
    ∧ (s.settings.sink ≠ .discard → 256 ≤ n → s.toSink b flawed =
      { s with parser.counters.fifoDrops := min 65535 (s.parser.counters.fifoDrops + 1) }.alertBoth .rxOverflow)
    ∧ (s.settings.sink ≠ .discard → n < 256 → s.toSink b flawed = { s with
        parser.fifo := s.parser.fifo ++ [⟨b, flawed⟩]
        parser.silence := ⟨some 3000000, false⟩
        parser.localFlow := if 191 ≤ n then .xoff else s.parser.localFlow
        parser.pendingFlow :=
          if 191 ≤ n ∧ s.parser.localFlow = .xon ∧ served then some .xoff else s.parser.pendingFlow })
    ∧ ∀ k byArbiter, 0 < k →
      let t := s.departFifo k byArbiter
      t.parser = { s.parser with
        fifo := s.parser.fifo.drop k
        localFlow := if n - k ≤ 64 then .xon else s.parser.localFlow
        pendingFlow := if n - k ≤ 64 ∧ s.parser.localFlow = .xoff ∧ served then some .xon else s.parser.pendingFlow }

/-- R80, R83 and R104: BREAK, READ LINE STATUS with the 32 bytes of its layout (R62, R194), CLEAR COUNTERS and READ
OPEN TEXT. -/
def Obligations.LineCommands : Prop :=
  ∀ (s : State) (p : Port), s.portServes p = true →
    let s1 := s.attach p
    let served : Prop := s.sup.state = .online ∨ s.sup.state = .clearing
    (¬served → exec (.sendBreak p) s = .next (s.answeredOnly p .lineIdle))
    ∧ (served → s.sched.breakRequest = .none →
      exec (.sendBreak p) s = .next ({ s1 with sched.breakRequest := .requested }.settle.respond p ⟨.ok, []⟩))
    ∧ (served → s.sched.breakRequest ≠ .none → exec (.sendBreak p) s = .next (s1.settle.respond p ⟨.ok, []⟩))
    ∧ exec (.clearCounters p) s = .next ({ s1 with
        parser.counters := ⟨0, 0, 0, 0, 0, 0, 0, 0, 0⟩ }.respond p ⟨.ok, []⟩)
    ∧ (∃ flow : Byte,
      let clearing : Prop := s.sup.state = .clearing
      let set : ClearingSet := s.sup.clearing.getD ⟨[], []⟩
      let word (n : Nat) : List Byte := [BitVec.ofNat 8 (n / 256), BitVec.ofNat 8 n]
      let c := s.parser.counters
      exec (.readLineStatus p) s = .next (s1.respond p ⟨.ok,
        [BitVec.ofNat 8 (supStateNumber s.sup.state), BitVec.ofNat 8 (modeNumber s.modem.mode),
          BitVec.ofNat 8 (carrierNumber s.modem.carrier), BitVec.ofNat 8 (reasonNumber s.sup.reason),
          BitVec.ofNat 8 (if clearing then set.chains.length else 0),
          BitVec.ofNat 8 (if clearing then set.chars.length else 0),
          BitVec.ofNat 8 (if clearing then s.sup.clearingTimer.getD 0 / 1000000 else 0),
          BitVec.ofNat 8 (if s.sup.state = .calling ∨ s.sup.state = .answering
            then s.sup.connectTimer.getD 0 / 1000000 else 0),
          BitVec.ofNat 8 (parserNumber s.parser.state), flow] ++ word s.parser.fifo.length
        ++ [BitVec.ofNat 8 s.parser.replies.length, BitVec.ofNat 8 (sinkNumber s.settings.sink)]
        ++ word c.received ++ word c.flawed ++ word c.filed ++ word c.discarded ++ word c.lost ++ word c.unrouted
        ++ word c.stray ++ word c.fifoDrops ++ word c.openDropped⟩)
      ∧ flow.toNat < 32
      ∧ (flow.getLsbD 0 = true ↔ s.parser.localFlow = .xoff)
      ∧ (flow.getLsbD 1 = true ↔ s.parser.pendingFlow = some .xon)
      ∧ (flow.getLsbD 2 = true ↔ s.parser.pendingFlow = some .xoff)
      ∧ (flow.getLsbD 3 = true ↔ s.sched.remoteFlow = .xoff)
      ∧ (flow.getLsbD 4 = true ↔ s.sched.answerbackPending = true))
    ∧ ∀ count : Byte,
      let mine : Prop := s.settings.sink = if p = .a then .portA else .portB
      let n := min count.toNat s.parser.fifo.length
      (count = 0 ∨ 32 < count.toNat → exec (.readOpenText p count) s = .next (s.answeredOnly p .badArg))
      ∧ (1 ≤ count.toNat → count.toNat ≤ 32 →
        (¬mine → exec (.readOpenText p count) s = .next (s.answeredOnly p .wrongState))
        ∧ (mine → s.parser.fifo = [] → exec (.readOpenText p count) s = .next (s.answeredOnly p .empty))
        ∧ (mine → s.parser.fifo ≠ [] → ∃ flawMap : List Byte, flawMap.length = (n + 7) / 8
          ∧ (∀ q < n, (flawMap.getD (q / 8) 0).getLsbD (q % 8) = ((s.parser.fifo[q]?).map (·.flawed)).getD false)
          ∧ exec (.readOpenText p count) s = .next ((s1.departFifo n false).settle.respond p
            ⟨.ok, BitVec.ofNat 8 n :: ((s.parser.fifo.take n).map (·.byte) ++ flawMap)⟩)))

/-! ## Transmit scheduler -/

/-- R86, steps 1 to 6, and R56: in ONLINE and CLEARING a character boundary first ends a clearing whose set is empty,
then hands a requested break outside a record, the pending flow control, the oldest reply, and the next character of
the turn under way: of a key turn, of an answerback (R90), of a PLAIN chain (R95) or of a record, whose SOH raises the
attempts used (R96). A remote XOFF stops all text, which an answerback is not. A pending withdrawal puts CAN in the
place of a record's next character, and is asked for in the place of any other (R101); an answerback owed goes between
two records (R87). With no turn under way the turn boundary is reached. That a break, a flow control and a reply go
before a pending withdrawal is asked for is the model's reading (assumption 11, DEDUCED), and so is that the
scheduler, at a turn boundary reached by itself, goes on to choose the next turn in the same event (assumption 12,
DEDUCED). -/
def Obligations.BoundaryOrder : Prop :=
  (∀ s : State, s.sup.state = .clearing → s.modem.modulator = .markIdle → s.sched.turn = .none →
    (s.sup.clearing = none ∨ s.sup.clearing = some ⟨[], []⟩) → s.serveLine = s.goIdle .cleared)
  ∧ (∀ (s : State) (i : SlotId) (keep : Byte → Bool),
    let judged (b : Byte) : Byte := if s.settings.dataBits = 7 then b &&& 0x7F else b
    let text (i : SlotId) (keep : Byte → Bool) : List Byte :=
      (((s.slot i).text.toList.take (s.slot i).length).map judged).filter keep
    ((∀ b : Byte, keep b = true ↔ (0x20 ≤ b.toNat ∨ b ∈ [(0x09 : Byte), 0x0D, 0x0A, 0x0C, 0x08])) →
      s.plainBytes i = (s.members i).flatMap fun m => text m keep)
    ∧ ((∀ b : Byte, keep b = true ↔ ((0x20 ≤ b.toNat ∧ b.toNat ≤ 0x7E) ∨ b = 0x09)) →
      let body := (s.slot i).route :: (if (s.slot i).cls = .c then (0x43 : Byte) else 0x4E) :: text i keep
      let sum := body.foldl (· ^^^ ·) 0
      recordCharacters s.settings (s.slot i) =
        0x01 :: (body ++ [0x03, if sum.toNat < 0x20 then sum + 0x20 else sum])))
  ∧ ∀ s : State, (s.sup.state = .online ∨ s.sup.state = .clearing) → s.modem.modulator = .markIdle →
    (s.sup.state = .clearing → s.sched.turn ≠ .none
      ∨ ∃ set, s.sup.clearing = some set ∧ (set.chains ≠ [] ∨ set.chars ≠ [])) →
    let free : Prop := s.sched.breakRequest ≠ .requested ∨ s.recordInProgress = true
    let sends (b : Byte) (h : Handed) (t : State) : Prop := s.serveLine =
      { t with modem.modulator := .character (frameOf s.settings b) 0, sched.handed := some h }
    (¬free → s.serveLine = { s with modem.modulator := .breaking none, sched.breakRequest := .sending })
    ∧ (free → ∀ f, s.parser.pendingFlow = some f →
      sends (if f = .xon then 0x11 else 0x13) .flow { s with parser.pendingFlow := none })
    ∧ (free → s.parser.pendingFlow = none → ∀ r rs, s.parser.replies = r :: rs →
      sends (if r = .ack then 0x06 else 0x15) .reply { s with parser.replies := rs })
    ∧ (free → s.parser.pendingFlow = none → s.parser.replies = [] →
      (∀ n, s.sched.turn = .key n →
        (s.sched.remoteFlow = .xoff → s.serveLine = s)
        ∧ ∀ c cs, s.sched.remoteFlow = .xon → s.sched.keyFifo = c :: cs → 0 < n →
          sends c.code (.key c.entry) { s with sched.keyFifo := cs, sched.turn := .key (n - 1) })
      ∧ (∀ b bs x, s.sched.turn = .answerback (b :: bs) x →
        sends b .answerback { s with sched.turn := .answerback bs x })
      ∧ (∀ u, s.lineOnce false = .again u → s.serveLine = u.lineLoop true 99)
      ∧ (s.sched.turn = .none → s.sched.holdWait = none →
        (s.chooseTurn = none → s.serveLine = s)
        ∧ ∀ u, s.chooseTurn = some u → s.lineOnce false = .again u)
      ∧ ((s.sched.turn = .none ∨ ∃ ct, s.sched.turn = .chain ct) → s.sched.holdWait ≠ none → s.serveLine = s)
      ∧ ∀ ct, s.sched.turn = .chain ct → s.sched.holdWait = none →
        let chars := recordCharacters s.settings (s.slot ct.member)
        let withdrawn : State := ({ s with
          sched.turn := .none, sched.withdrawalPending := false, sched.replyTimer := none }.chainRequest ct.head .send
            [.active] .aborted (some .withdrawn)).leaveLine ct.head
        (s.sched.withdrawalPending = false →
          (s.sched.remoteFlow = .xoff → (∀ first, ct.phase ≠ .between first) → s.serveLine = s)
          ∧ (ct.phase = .reply → s.serveLine = s)
          ∧ (∀ n b, ct.phase = .plain n → s.sched.remoteFlow = .xon → (s.plainBytes ct.head)[n]? = some b →
            sends b .plain { s with sched.turn := .chain { ct with phase := .plain (n + 1) } })
          ∧ (∀ n b, ct.phase = .record n → s.sched.remoteFlow = .xon → chars[n]? = some b →
            sends b (if n + 1 = chars.length then .check else .record)
              { s with sched.turn := .chain { ct with phase := .record (n + 1) } })
          ∧ (∀ first, ct.phase = .between first →
            (first = false → s.sched.answerbackPending = true →
              s.lineOnce false = .again (s.chooseAnswerback (some ct)))
            ∧ ((first = true ∨ s.sched.answerbackPending = false) →
              (s.sched.remoteFlow = .xoff → s.serveLine = s)
              ∧ (s.sched.remoteFlow = .xon → sends 0x01 .record { s with
                sched.turn := .chain { ct with phase := .record 1 }
                slots := Vector.ofFn fun i : SlotId => if i = ct.member ∨ i = ct.head
                  then { s.slot i with attempts := (s.slot ct.member).attempts + 1 } else s.slot i }))))
        ∧ (s.sched.withdrawalPending = true →
          (∀ n, ct.phase = .record n → n < chars.length →
            (s.sched.remoteFlow = .xoff → s.serveLine = s) ∧ (s.sched.remoteFlow = .xon → sends 0x18 .can s))
          ∧ (∀ n, ct.phase = .plain n → s.lineOnce false = .again withdrawn)
          ∧ (∀ first, ct.phase = .between first → s.lineOnce false = .again withdrawn)))

/-- R30, R31, R90, R91, R95 to R101: what the modulator's report of a character or a break complete does before the
character boundary it makes, or the turn boundary where it ends a chain turn (R87, R99; assumption 12). An answerback
turn ends, and a suspended chain turn resumes, with the completion of its last byte; a PLAIN chain is complete with
the completion of its last byte, unless its withdrawal is pending (R101). The report is taken in any BREAK or
CHARACTER (assumption 2). -/
def Obligations.ElementsComplete : Prop :=
  (∀ (s : State) (left : Option Nat), s.modem.modulator = .breaking left → exec .breakComplete s =
    .next { s with modem.modulator := .markIdle, sched.breakRequest := .none }.settle)
  ∧ ∀ (s : State) (frame : List Level) (n : Nat), s.modem.modulator = .character frame n →
    let s1 : State := { s with modem.modulator := .markIdle, sched.handed := none }
    ((s.sched.handed = some .flow ∨ s.sched.handed = some .reply ∨ s.sched.handed = some .record) →
      exec .characterComplete s = .next s1.settle)
    ∧ (∀ e k, s.sched.handed = some (.key e) → s.sched.turn = .key (k + 1) →
      exec .characterComplete s = .next ((s1.clearingDropChar e).testLineMarks).settle)
    ∧ (∀ e, s.sched.handed = some (.key e) → s.sched.turn = .key 0 → exec .characterComplete s =
      .next (({ s1 with sched.turn := .none }.clearingDropChar e).testLineMarks).settle)
    ∧ (∀ ct, s.sched.handed = some .check → s.sched.turn = .chain ct → s.sched.withdrawalPending = false →
      ((s.slot ct.member).cls = .c → exec .characterComplete s = .next { s1 with
        sched.turn := .chain { ct with phase := .reply }
        sched.replyTimer := some (s.settings.replyTimeout * 1000000) }.settle)
      ∧ ((s.slot ct.member).cls = .n → ∀ m, (s.slot ct.member).successor = some m →
        exec .characterComplete s = .next { s1 with
          sched.turn := .chain { ct with member := m, phase := .between false }, sched.replyTimer := none }.settle)
      ∧ ((s.slot ct.member).cls = .n → (s.slot ct.member).successor = none →
        exec .characterComplete s = .next (s.settleAfter (s1.completeChain ct.head))))
    ∧ (∀ ct, s.sched.handed = some .check → s.sched.turn = .chain ct → s.sched.withdrawalPending = true →
      exec .characterComplete s = .next { s1 with sched.turn := .chain { ct with phase := .between false } }.settle)
    ∧ (∀ ct, s.sched.handed = some .can → s.sched.turn = .chain ct →
      exec .characterComplete s = .next (s.settleAfter (({ s1 with
        sched.turn := .none, sched.withdrawalPending := false, sched.replyTimer := none }.chainRequest ct.head .send
          [.active] .aborted (some .withdrawn)).leaveLine ct.head)))
    ∧ (s.sched.handed = some .answerback →
      (∀ b bs x, s.sched.turn = .answerback (b :: bs) x → exec .characterComplete s = .next s1.settle)
      ∧ (s.sched.turn = .answerback [] none →
        exec .characterComplete s = .next { s1 with sched.turn := .none }.settle)
      ∧ ∀ ct, s.sched.turn = .answerback [] (some ct) →
        exec .characterComplete s = .next { s1 with sched.turn := .chain ct }.settle)
    ∧ ∀ ct k, s.sched.handed = some .plain → s.sched.turn = .chain ct → ct.phase = .plain k →
      (k = (s.plainBytes ct.head).length → s.sched.withdrawalPending = false →
        exec .characterComplete s = .next (s.settleAfter (s1.completeChain ct.head)))
      ∧ (k ≠ (s.plainBytes ct.head).length ∨ s.sched.withdrawalPending = true →
        exec .characterComplete s = .next s1.settle)

/-- R87 to R92 and R94: at a turn boundary the answerback comes first, then the kind tx_turn_mode gives; of the
eligible chains, where there is one, the highest priority, then the port that did not have the last chain, then the
lowest entry number. A key turn has the characters then in the FIFO, in CLEARING those of the clearing set at its
front (R91). The chain selected becomes ACTIVE and leaves the send queue, complete at once when it is PLAIN without a
byte to send (R95), or waits with a hold timer when a member is held (R92); an answerback takes its copy of slot 0, or
waits (R90, R94). That a remote XOFF leaves no turn but the answerback's to choose is the model's reading (assumption
10, DEDUCED), and so is what the turn is while an answerback waits (assumption 13). -/
def Obligations.TurnsAreChosenByRule : Prop :=
  (∀ s : State,
    let eligible (x : QueuedChain) : Prop := x ∈ s.sched.sendQueue ∧ (s.slot x.head).state = .queued
      ∧ (s.slot x.head).chainHead = some x.head
      ∧ (∃ p, (s.slot x.head).owner = some p ∧ s.sched.masks.get p = none)
      ∧ (s.sup.state = .clearing → ∃ c, s.sup.clearing = some c ∧ x.head ∈ c.chains)
    let other (x : QueuedChain) : Prop := (s.slot x.head).owner = some (otherPort s.sched.lastChainPort)
    ((∃ x, eligible x) → s.selectChain ≠ none)
    ∧ ∀ q, s.selectChain = some q → eligible q ∧ ∀ x, eligible x →
      (s.slot x.head).priority ≤ (s.slot q.head).priority
      ∧ ((s.slot x.head).priority = (s.slot q.head).priority →
        (other x → other q) ∧ ((s.slot x.head).owner = (s.slot q.head).owner → q.entry ≤ x.entry)))
  ∧ (∀ s : State, (s.sup.state ≠ .clearing → s.keysReady = s.sched.keyFifo.length)
    ∧ (s.sup.state = .clearing → s.keysReady ≤ s.sched.keyFifo.length ∧ ∀ n ≤ s.sched.keyFifo.length,
      (n ≤ s.keysReady ↔ ∀ c ∈ s.sched.keyFifo.take n, ∃ set, s.sup.clearing = some set ∧ c.entry ∈ set.chars)))
  ∧ (∀ (s : State) (q : QueuedChain),
    let plain : Prop := (s.slot q.head).framing = .plain
    let begun : State := { s.chainRequest q.head .send [.queued] .active none with
      sched := { s.sched with
        sendQueue := s.sched.sendQueue.filter fun r => r.head ≠ q.head
        turn := .chain ⟨q.head, q.entry, q.head, if plain then .plain 0 else .between true⟩
        holdWait := none
        withdrawalPending := false
        lastTurn := .chain
        lastChainPort := ((s.slot q.head).owner).getD s.sched.lastChainPort } }
    ((∃ m ∈ s.members q.head, (s.slot m).hold = true) → s.startChain q =
      { s with sched.holdWait := some ⟨.chain q.head, some (s.settings.holdTimeout * 1000)⟩ })
    ∧ ((∀ m ∈ s.members q.head, (s.slot m).hold = false) →
      (¬(plain ∧ begun.plainBytes q.head = []) → s.startChain q = begun)
      ∧ (plain → begun.plainBytes q.head = [] → s.startChain q = begun.completeChain q.head)))
  ∧ (∀ (s : State) (x : Option ChainTurn) (keep : Byte → Bool),
    (∀ b : Byte, keep b = true ↔ ((0x20 ≤ b.toNat ∧ b.toNat ≤ 0x7E) ∨ b = 0x0D ∨ b = 0x0A)) →
    let judged (b : Byte) : Byte := if s.settings.dataBits = 7 then b &&& 0x7F else b
    ((s.slot 0).hold = true → s.chooseAnswerback x =
      { s with sched.holdWait := some ⟨.answerback, some (s.settings.holdTimeout * 1000)⟩ })
    ∧ ((s.slot 0).hold = false → s.chooseAnswerback x = { s with
      sched.answerbackPending := false
      sched.turn := .answerback ((((s.slot 0).text.toList.take (s.slot 0).length).map judged).filter keep) x
      sched.holdWait := none }))
  ∧ ∀ s : State,
    let keys : Prop := s.keysReady ≠ 0
    (s.sched.answerbackPending = true → s.chooseTurn = some (s.chooseAnswerback none))
    ∧ (s.sched.answerbackPending = false → s.sched.remoteFlow = .xoff → s.chooseTurn = none)
    ∧ (s.sched.answerbackPending = false → s.sched.remoteFlow = .xon →
      (¬keys → s.selectChain = none → s.chooseTurn = none)
      ∧ (keys → s.selectChain = none →
        s.chooseTurn = some { s with sched.turn := .key s.keysReady, sched.lastTurn := .key })
      ∧ (¬keys → ∀ q, s.selectChain = some q → s.chooseTurn = some (s.startChain q))
      ∧ (keys → ∀ q, s.selectChain = some q →
        (s.settings.turnMode = .keysFirst ∨ (s.settings.turnMode = .alternate ∧ s.sched.lastTurn = .chain) →
          s.chooseTurn = some { s with sched.turn := .key s.keysReady, sched.lastTurn := .key })
        ∧ (s.settings.turnMode = .queueFirst ∨ (s.settings.turnMode = .alternate ∧ s.sched.lastTurn = .key) →
          s.chooseTurn = some (s.startChain q))))

/-- R93, R94, R98, R103, R132 and R136: the timers of the scheduler and of the arbiter. The expiries are taken as
assumption 2 says. -/
def Obligations.HoldMaskAndReplyTimers : Prop :=
  ((∀ (s : State) (ct : ChainTurn), s.sched.turn = .chain ct → ct.phase = .reply → s.sched.replyTimer ≠ none →
     ((s.slot ct.member).attempts < s.settings.attemptLimit → exec .replyTimerExpired s = .next (s.settleAfter { s with
       sched.turn := .chain { ct with phase := .between false }, sched.replyTimer := none }))
     ∧ (s.settings.attemptLimit ≤ (s.slot ct.member).attempts →
       exec .replyTimerExpired s = .next (s.settleAfter (({ s with
         sched.turn := .none, sched.withdrawalPending := false, sched.replyTimer := none }.chainRequest ct.head .send
           [.active] .failed (some .noReply)).leaveLine ct.head))))
   ∧ (∀ (s : State) (h : SlotId) (w : Nat) (p : Port), s.sched.holdWait = some ⟨.chain h, some w⟩ →
     (s.slot h).owner = some p → exec .sendHoldTimerExpired s = .next (s.settleAfter ({ s with
       sched.holdWait := none
       sched.masks := s.sched.masks.set p (some (s.settings.maskTime * 1000)) }.alert p .holdExpired)))
   ∧ (∀ (s : State) (w : Nat), s.sched.holdWait = some ⟨.answerback, some w⟩ →
     ((s.slot 0).owner = none → exec .answerbackHoldExpired s = .next (s.settleAfter { s with
       sched.holdWait := none, sched.answerbackPending := false }))
     ∧ ∀ p, (s.slot 0).owner = some p → exec .answerbackHoldExpired s = .next (s.settleAfter ({ s with
       sched.holdWait := none, sched.answerbackPending := false }.alert p .holdExpired)))
   ∧ (∀ (s : State) (p : Port), s.sched.masks.get p ≠ none →
     exec (.sendMaskTimerExpired p) s = .next { s with sched.masks := s.sched.masks.set p none }.settle)
   ∧ ∀ s : State, s.sched.flowTimer ≠ none → exec .flowLimitTimerExpired s =
     .next ({ s with sched.remoteFlow := .xon, sched.flowTimer := none }.alertBoth .flowTimeout).settle)
  ∧ ((∀ s : State, s.parser.silence.timer ≠ none → exec (.liveSilenceExpired .lds) s =
       .next { s with parser.silence := ⟨none, true⟩ }.settle)
     ∧ (∀ s : State, s.arb.silence.timer ≠ none → exec (.liveSilenceExpired .lcs) s =
       .next { s with arb.silence := ⟨none, true⟩ }.settle)
     ∧ (∀ (s : State) (h : SlotId) (w : Nat) (p : Port), s.arb.holdWait = some ⟨h, some w⟩ → (s.slot h).owner = some p →
       exec .printHoldTimerExpired s = .next ({ s with
         arb.holdWait := none
         arb.masks := s.arb.masks.set p (some (s.settings.maskTime * 1000)) }.alert p .holdExpired).settle)
     ∧ ∀ (s : State) (p : Port), s.arb.masks.get p ≠ none →
       exec (.printMaskTimerExpired p) s = .next { s with arb.masks := s.arb.masks.set p none }.settle)

/-- R107 to R109, R145, R146: DRAIN MARK and READ DRAIN. A mark completes at once, with DRAINED, exactly when no unit
at or before it remains on its path. -/
def Obligations.DrainMarks : Prop :=
  ∀ (s : State) (p : Port), s.portServes p = true →
    let s1 := s.attach p
    let record : MarkRecord := ⟨s.arb.issued, if s.settings.sink = .print then s.parser.fifo.length else 0,
      s.arb.copyBuffer.length, s.arb.feeds, s.arb.unit.owesLine⟩
    let gone : Prop := (∀ e ∈ s.printEntries, s.arb.issued < e) ∧ record.lds = 0 ∧ record.lcs = 0 ∧ record.feeds = 0
      ∧ record.lineOwed = false
    (∀ b : Byte, 2 ≤ b.toNat → exec (.drainMark p b) s = .next (s.answeredOnly p .badArg))
    ∧ ((∀ e ∈ s.lineEntries, s.sched.issued < e) → exec (.drainMark p 0) s = .next (({ s1 with
        sched.marks := s.sched.marks.set p .complete }.raise p (.drained .line)).respond p ⟨.ok, []⟩))
    ∧ ((∃ e ∈ s.lineEntries, e ≤ s.sched.issued) → exec (.drainMark p 0) s = .next ({ s1 with
        sched.marks := s.sched.marks.set p (.pending s.sched.issued) }.respond p ⟨.ok, []⟩))
    ∧ (gone → exec (.drainMark p 1) s = .next (({ s1 with
        arb.marks := s.arb.marks.set p .complete }.raise p (.drained .print)).respond p ⟨.ok, []⟩))
    ∧ (¬gone → exec (.drainMark p 1) s = .next ({ s1 with
        arb.marks := s.arb.marks.set p (.pending record) }.respond p ⟨.ok, []⟩))
    ∧ ∃ b : Byte, exec (.readDrain p) s = .next (s1.respond p ⟨.ok, [b]⟩)
      ∧ b.toNat % 4 = lineMarkNumber (s.sched.marks.get p) ∧ b.toNat / 4 = printMarkNumber (s.arb.marks.get p)

/-! ## Keyboard -/

/-- R124 to R126: the focus moves by TAKE FOCUS, GIVE FOCUS and the SELECT key (position 64). -/
def Obligations.FocusMoves : Prop :=
  (∀ (s : State) (p : Port), s.portServes p = true →
    let s1 := s.attach p
    (s.kbd.focus = none → exec (.takeFocus p) s =
      .next ({ s1 with kbd.focus := some p, kbd.wanted := none }.respond p ⟨.ok, []⟩))
    ∧ (s.kbd.focus = some p → exec (.takeFocus p) s = .next (s.answeredOnly p .ok))
    ∧ (s.kbd.focus = some (otherPort p) → exec (.takeFocus p) s =
      .next (({ s1 with kbd.wanted := some p }.raise (otherPort p)
        (.keys .focusWanted (some (otherPort p)) (s.keyCount (otherPort p)))).respond p ⟨.focusHeld, []⟩))
    ∧ (s.kbd.focus ≠ some p → exec (.giveFocus p) s = .next (s.answeredOnly p .wrongState))
    ∧ (s.kbd.focus = some p → s.kbd.wanted = none →
      exec (.giveFocus p) s = .next ({ s1 with kbd.focus := none }.respond p ⟨.ok, []⟩))
    ∧ ∀ q, s.kbd.focus = some p → s.kbd.wanted = some q →
      exec (.giveFocus p) s = .next (({ s1 with kbd.focus := some q, kbd.wanted := none }.raise q
        (.keys .focusGranted (some q) (s.keyCount q))).respond p ⟨.ok, []⟩))
  ∧ ∀ s : State,
    let pressed : State := { s with
      kbd.down := s.kbd.down ++ [64], kbd.repeatKey := none, kbd.repeatTimer := none, kbd.wanted := none }
    let granted (q : Port) : EventDetail := .keys .focusGranted (some q) (s.keyCount q)
    (∀ p, s.kbd.focus = some p → s.kbd.attached.get (otherPort p) = true → s.pressKey 64 =
      ({ pressed with kbd.focus := some (otherPort p) }.raise p
        (.keys .focusLost (some (otherPort p)) (s.keyCount p))).raise (otherPort p) (granted (otherPort p)))
    ∧ (s.kbd.focus = none → s.kbd.attached.a = true →
      s.pressKey 64 = { pressed with kbd.focus := some .a }.raise .a (granted .a))
    ∧ (s.kbd.focus = none → s.kbd.attached.a = false → s.kbd.attached.b = true →
      s.pressKey 64 = { pressed with kbd.focus := some .b }.raise .b (granted .b))
    ∧ (∀ p, s.kbd.focus = some p → s.kbd.attached.get (otherPort p) = false → s.pressKey 64 = pressed.beep)
    ∧ (s.kbd.focus = none → s.kbd.attached.a = false → s.kbd.attached.b = false → s.pressKey 64 = pressed.beep)

/-- R122: READ KEYS takes the port's own oldest entries; the other port's keep their places. -/
def Obligations.ReadKeysTakesTheOwnEntries : Prop :=
  ∀ (s : State) (p : Port) (count : Byte), s.portServes p = true →
    let mine := s.kbd.queue.filter fun e => e.tag = p
    let n := min count.toNat mine.length
    (count = 0 ∨ 8 < count.toNat → exec (.readKeys p count) s = .next (s.answeredOnly p .badArg))
    ∧ (1 ≤ count.toNat → count.toNat ≤ 8 →
      (mine = [] → exec (.readKeys p count) s = .next (s.answeredOnly p .empty))
      ∧ (mine ≠ [] → ∃ queue : List KeyEntry,
        exec (.readKeys p count) s = .next ({ s.attach p with kbd.queue := queue }.respond p
          ⟨.ok, BitVec.ofNat 8 n :: (mine.take n).flatMap keyEntryBytes⟩)
        ∧ queue.filter (fun e => e.tag = p) = mine.drop n
        ∧ queue.filter (fun e => e.tag ≠ p) = s.kbd.queue.filter (fun e => e.tag ≠ p)
        ∧ queue.Sublist s.kbd.queue))

/-- R110 to R121: a scan and the presses it recognises. Every debounce record follows its observation; a position
whose stable level turns to UP leaves the down set and ends its own repeat; the positions with a stable level of DOWN
outside the down set are then tested in ascending order, and one that passes the rollover test (R113) and the phantom
test (R114), both against the down set as it stands, is pressed, so that non-modifier keys stay at most four. A press
joins the down set and acts by its class in the keymap (R115, R116, section 11.8): SHIFT and CTRL by being down, CAPS
by turning over, FEED and BREAK as R120 says, an absent position not at all; a FUNCTION, EDIT or CHAR key gives its
code to the routing of R118, and all but the modifiers end the repeat under way, EDIT and CHAR with a repeat of their
own (R117). -/
def Obligations.ScanDebounces : Prop :=
  (∀ (s : State) (down : BitVec 80), s.power ≠ .held →
    let observed : Vector Debounce 80 := Vector.ofFn fun p : KeyPos =>
      let r := s.kbd.debounce[p]
      let seen := down.getLsbD p.val
      if seen = r.down then ⟨r.down, 0⟩ else if r.agree < 2 then ⟨r.down, r.agree + 1⟩ else ⟨seen, 0⟩
    let released (p : KeyPos) : Bool := s.kbd.debounce[p].down && !observed[p].down
    let stops : Bool := (s.kbd.repeatKey.map fun r => s.kbd.down.contains r.position && released r.position).getD false
    let scanned : State := { s with
      kbd.scanTimer := some 5000
      kbd.debounce := observed
      kbd.down := s.kbd.down.filter fun p => !released p
      kbd.repeatKey := if stops then none else s.kbd.repeatKey
      kbd.repeatTimer := if stops then none else s.kbd.repeatTimer }
    let at_ (u : State) (drive sense : Nat) : Bool := u.kbd.down.any fun q => q.val = 10 * drive + sense
    let phantom (u : State) (p : KeyPos) : Bool := u.kbd.down.any fun q =>
      q.val / 10 ≠ p.val / 10 && q.val % 10 ≠ p.val % 10 && at_ u (p.val / 10) (q.val % 10) && at_ u (q.val / 10) (p.val % 10)
    let test (u : State) (p : KeyPos) : State :=
      if ((keyAt p).isModifier || u.kbd.nonModifiers < 4) && !phantom u p then u.settleAfter (u.pressKey p) else u
    let t := ((List.finRange 80).filter fun p : KeyPos => observed[p].down && !scanned.kbd.down.contains p).foldl test scanned
    exec (.scan down) s = .next t
      ∧ t.kbd.scanTimer = some 5000
      ∧ (∀ p : KeyPos, t.kbd.debounce[p] = observed[p])
      ∧ (∀ p : KeyPos, released p = true → p ∉ t.kbd.down)
      ∧ (∀ p ∈ t.kbd.down, p ∈ s.kbd.down ∨ t.kbd.debounce[p].down = true)
      ∧ (s.kbd.nonModifiers ≤ 4 → t.kbd.nonModifiers ≤ 4)
      ∧ ((∀ p : KeyPos, down.getLsbD p.val = s.kbd.debounce[p].down
          ∧ (s.kbd.debounce[p].down = true → p ∈ s.kbd.down)) →
        t = { s with kbd.scanTimer := some 5000, kbd.debounce := observed }))
  ∧ (∀ p : KeyPos,
    (∀ k < 8, p.val = k → keyAt p = .function (BitVec.ofNat 8 (0x81 + k)))
    ∧ (∀ k code, (k, code) ∈ [(8, (0x1B : Byte)), (9, 0x08), (20, 0x09), (59, 0x0D)] → p.val = k → keyAt p = .edit code)
    ∧ (∀ k n, [21, 51, 32, 41, 33, 42, 43, 44, 38, 45, 46, 47, 53, 52, 39, 40, 11, 34, 22, 35, 37, 50, 12, 31, 36,
        30][n]? = some k → p.val = k → keyAt p = .char (BitVec.ofNat 8 (0x61 + n)) (BitVec.ofNat 8 (0x41 + n)))
    ∧ (∀ k u v, (k, u, v) ∈ [(10, (0x31 : Byte), (0x21 : Byte)), (13, 0x32, 0x40), (14, 0x33, 0x23), (15, 0x34, 0x24),
        (16, 0x35, 0x25), (17, 0x36, 0x5E), (18, 0x37, 0x26), (19, 0x38, 0x2A), (23, 0x39, 0x28), (24, 0x30, 0x29),
        (25, 0x2D, 0x5F), (26, 0x3D, 0x2B), (27, 0x5B, 0x7B), (28, 0x5D, 0x7D), (29, 0x60, 0x7E), (48, 0x3B, 0x3A),
        (49, 0x27, 0x22), (54, 0x2C, 0x3C), (55, 0x2E, 0x3E), (56, 0x2F, 0x3F), (57, 0x5C, 0x7C), (58, 0x20, 0x20)] →
      p.val = k → keyAt p = .char u v)
    ∧ (∀ k key, (k, key) ∈ [(60, Key.caps), (61, .ctrl), (62, .feed), (63, .breakKey), (64, .select), (70, .shift),
        (79, .shift)] → p.val = k → keyAt p = key)
    ∧ ((65 ≤ p.val ∧ p.val ≤ 69) ∨ (71 ≤ p.val ∧ p.val ≤ 78) → keyAt p = .absent))
  ∧ ∀ (s : State) (p : KeyPos),
    let m : Modifiers := ⟨decide ((70 : KeyPos) ∈ s.kbd.down ∨ (79 : KeyPos) ∈ s.kbd.down),
      decide ((61 : KeyPos) ∈ s.kbd.down), s.kbd.caps⟩
    let pressed : State := { s with kbd.down := s.kbd.down ++ [p] }
    let ended : State := { pressed with kbd.repeatKey := none, kbd.repeatTimer := none }
    let repeating (code : Byte) (c : KeyClass) : State := { pressed with
      kbd.repeatKey := some ⟨p, code, c, m, 1000000 / s.settings.repeatRate⟩
      kbd.repeatTimer := some (s.settings.repeatDelay * 1000) }
    (keyAt p = .shift ∨ keyAt p = .ctrl → s.pressKey p = pressed)
    ∧ (keyAt p = .caps → s.pressKey p = { pressed with kbd.caps := !s.kbd.caps })
    ∧ (keyAt p = .absent → s.pressKey p = ended)
    ∧ (keyAt p = .feed → (s.arb.feeds < 9 → s.pressKey p = { ended with arb.feeds := s.arb.feeds + 1 })
      ∧ (9 ≤ s.arb.feeds → s.pressKey p = ended.beep))
    ∧ (keyAt p = .breakKey →
      (s.sup.state = .online ∨ s.sup.state = .clearing → s.pressKey p = { ended with
        sched.breakRequest := if s.sched.breakRequest = .none then .requested else s.sched.breakRequest })
      ∧ (s.sup.state ≠ .online → s.sup.state ≠ .clearing → s.pressKey p = ended.beep))
    ∧ (∀ code, keyAt p = .function code → s.pressKey p = ended.routeKey code .function m false)
    ∧ (∀ code, keyAt p = .edit code → s.pressKey p = (repeating code .edit).routeKey code .edit m false)
    ∧ ∀ u v, keyAt p = .char u v →
      let letter : Prop := 0x61 ≤ u.toNat ∧ u.toNat ≤ 0x7A
      let shifted : Byte := if m.shift then v else u
      let cased : Byte := if m.shift || m.caps then v else u
      let code : Byte := if letter then (if m.ctrl then cased &&& 0x1F else cased) else shifted
      s.pressKey p = (repeating code .char).routeKey code .char m false

/-- R117, R118, R119, R121: a repeat is routed by the focus and the key mode as they stand, with the code and
modifiers kept at the press, and the timer restarts at the interval noted then; the code of a press is routed in the
same way. The expiry of the repeat timer is taken whenever it runs, by the model's choice (assumption 2). -/
def Obligations.RepeatsAreRouted : Prop :=
  (∀ (s : State) (code : Byte) (c : KeyClass) (m : Modifiers) (again : Bool),
    let t := s.routeKey code c m again
    let lost := s.beep.alertBoth .keyOverflow
    (s.kbd.focus = none → t = s.beep)
    ∧ ∀ p, s.kbd.focus = some p →
      ((c = .function ∨ s.settings.keyMode.get p = .queue) →
        (16 ≤ s.kbd.queue.length → t = lost)
        ∧ (s.kbd.queue.length < 16 → t = { s with
          kbd.queue := s.kbd.queue ++ [KeyEntry.mk code c m again p] }.raise p
            (.keys .entry (some p) (s.keyCount p + 1))))
      ∧ (c ≠ .function → s.settings.keyMode.get p ≠ .queue →
        (32 ≤ s.sched.keyFifo.length → t = lost)
        ∧ (s.sched.keyFifo.length < 32 →
          let sent : State := { s with
            sched.issued := s.sched.issued + 1
            sched.keyFifo := s.sched.keyFifo ++ [⟨code, s.sched.issued + 1⟩] }
          (s.settings.keyMode.get p = .line → t = sent)
          ∧ (s.settings.keyMode.get p = .lineCopy → s.arb.copyBuffer.length < 160 → t = { sent with
            arb.copyBuffer := s.arb.copyBuffer ++ [code], arb.silence := ⟨some 3000000, false⟩ })
          ∧ (s.settings.keyMode.get p = .lineCopy → 160 ≤ s.arb.copyBuffer.length →
            t = sent.alertBoth .keyOverflow))))
  ∧ ∀ (s : State) (r : RepeatKey), s.kbd.repeatKey = some r → s.kbd.repeatTimer ≠ none →
    let s1 : State := { s with kbd.repeatTimer := some r.interval }
    (s.kbd.focus = none → exec .repeatTimerExpired s = .next (s.settleAfter s1.beep))
    ∧ ∀ p, s.kbd.focus = some p →
      ((r.cls = .function ∨ s.settings.keyMode.get p = .queue) →
        (s.kbd.queue.length < 16 → exec .repeatTimerExpired s = .next (s.settleAfter ({ s1 with
          kbd.queue := s.kbd.queue ++ [KeyEntry.mk r.code r.cls r.mods true p] }.raise p
            (.keys .entry (some p) (s.keyCount p + 1)))))
        ∧ (16 ≤ s.kbd.queue.length →
          exec .repeatTimerExpired s = .next (s.settleAfter (s1.beep.alertBoth .keyOverflow))))
      ∧ (r.cls ≠ .function → s.settings.keyMode.get p ≠ .queue →
        (32 ≤ s.sched.keyFifo.length →
          exec .repeatTimerExpired s = .next (s.settleAfter (s1.beep.alertBoth .keyOverflow)))
        ∧ (s.sched.keyFifo.length < 32 →
          let sent : State := { s1 with
            sched.issued := s.sched.issued + 1
            sched.keyFifo := s.sched.keyFifo ++ [⟨r.code, s.sched.issued + 1⟩] }
          (s.settings.keyMode.get p = .line → exec .repeatTimerExpired s = .next (s.settleAfter sent))
          ∧ (s.settings.keyMode.get p = .lineCopy → s.arb.copyBuffer.length < 160 →
            exec .repeatTimerExpired s = .next (s.settleAfter { sent with
              arb.copyBuffer := s.arb.copyBuffer ++ [r.code], arb.silence := ⟨some 3000000, false⟩ }))
          ∧ (s.settings.keyMode.get p = .lineCopy → 160 ≤ s.arb.copyBuffer.length →
            exec .repeatTimerExpired s = .next (s.settleAfter (sent.alertBoth .keyOverflow)))))

/-! ## Print side -/

/-- R144: FEED raises the feed-request count to at most 9. R147, R165, R193 and R194: READ PRINT STATUS and READ
STATUS answer the 25 and the 20 bytes of their layouts and change nothing but the port's attachment and answer. That
lines completed, step index and chain head read 0xFF with no job, line or chain turn is the model's (assumption 14),
and so are what a suspended or waiting chain shows (assumption 13) and a stopped print hold wait (assumption 32). -/
def Obligations.FeedAndStatusReads : Prop :=
  (∀ (s : State) (p : Port), s.portServes p = true →
     exec (.feed p 0) s = .next (s.answeredOnly p .badArg)
     ∧ ∀ count : Byte, count ≠ 0 → exec (.feed p count) s = .next (({ s.attach p with
         arb.feeds := min 9 (s.arb.feeds + count.toNat) }.settle).respond p
           ⟨if 9 < s.arb.feeds + count.toNat then .okClamped else .ok, []⟩))
  ∧ (∀ (s : State) (p : Port), s.portServes p = true →
       let b (n : Nat) : Byte := BitVec.ofNat 8 n
       let e := s.engine
       let r := e.record
       ∃ flags stalls : Byte, exec (.readPrintStatus p) s = .next ((s.attach p).respond p ⟨.ok,
           [match s.arb.unit with
             | .none => 0
             | .feed => 1
             | .live .lds _ => 2
             | .live .lcs _ => 3
             | .job j _ _ _ => match j.kind with
               | .print => 4
               | .copy => 5
               | .auto => 6,
             match s.arb.unit with
             | .job j _ _ _ => b j.slot.val
             | _ => 0xFF,
             match s.arb.unit with
             | .job _ _ _ lines => b lines
             | _ => 0xFF,
             match s.arb.holdWait with
             | some ⟨h, some _⟩ => b h.val
             | _ => 0xFF,
             flags, b s.arb.queue.length, b s.arb.copyBuffer.length, b s.arb.feeds, b (engineNumber e.state),
             if e.line = none then 0xFF else b e.step,
             stalls, b (r.v / 256), b r.v, BitVec.ofInt 8 r.th, b (r.td / 256), b r.td, b (r.ts / 256), b r.ts,
             b r.nmax, b r.groups, b (r.period / 256), b r.period, b e.phaseIndex.val, b (e.stepCounter.toNat / 256),
             b e.stepCounter.toNat]⟩)
         ∧ flags.toNat < 128
         ∧ flags.getLsbD 0 = s.arb.withdrawalPending ∧ flags.getLsbD 1 = s.sourceReady .lds
         ∧ flags.getLsbD 2 = s.sourceReady .lcs ∧ (flags.getLsbD 3 = true ↔ s.arb.masks.a ≠ none)
         ∧ (flags.getLsbD 4 = true ↔ s.arb.masks.b ≠ none) ∧ (flags.getLsbD 5 = true ↔ s.arb.lastUnit = .queue)
         ∧ (flags.getLsbD 6 = true ↔ s.arb.lastJobPort = .b)
         ∧ stalls.getLsbD 0 = e.stopRequested ∧ stalls.getLsbD 1 = e.supply ∧ stalls.getLsbD 2 = e.heat
         ∧ stalls.getLsbD 3 = e.paper ∧ stalls.getLsbD 4 = e.paperOutPending ∧ stalls.getLsbD 5 = e.lastPaperOut
         ∧ stalls.getLsbD 6 = e.batteryJudged ∧ stalls.getLsbD 7 = e.headJudged)
  ∧ ∀ (s : State) (p : Port), s.portServes p = true →
       let b (n : Nat) : Byte := BitVec.ofNat 8 n
       ∃ sched kbd supply modes levels : Byte, exec (.readStatus p) s = .next ((s.attach p).respond p ⟨.ok,
           [b (((List.finRange 24).filter fun i : SlotId => i ≠ 0 && (s.slot i).state = .free).length),
             b (s.owned .a), b (s.owned .b), b (portCode (s.slot 0).owner), b s.sched.sendQueue.length,
             b s.sched.keyFifo.length,
             match s.sched.turn with
             | .none => 0
             | .answerback _ _ => 1
             | .key _ => 2
             | .chain _ => 3,
             match s.sched.turn with
             | .chain ct => b ct.head.val
             | _ => 0xFF,
             sched, b (portCode s.kbd.focus), kbd, b (s.keyCount .a), b (s.keyCount .b), b s.kbd.nonModifiers,
             b (s.monitor.v / 256), b s.monitor.v, BitVec.ofInt 8 s.monitor.th, supply, modes, levels]⟩)
         ∧ sched.toNat < 128
         ∧ (sched.getLsbD 0 = true ↔ s.sched.holdWait ≠ none) ∧ (sched.getLsbD 1 = true ↔ s.replyWait ≠ none)
         ∧ (sched.getLsbD 2 = true ↔ s.sched.breakRequest = .requested)
         ∧ (sched.getLsbD 3 = true ↔ s.sched.breakRequest = .sending)
         ∧ (sched.getLsbD 4 = true ↔ s.sched.masks.a ≠ none) ∧ (sched.getLsbD 5 = true ↔ s.sched.masks.b ≠ none)
         ∧ (sched.getLsbD 6 = true ↔ s.sched.lastTurn = .chain)
         ∧ kbd.toNat < 64
         ∧ (kbd.getLsbD 0 = true ↔ s.kbd.wanted = some .a) ∧ (kbd.getLsbD 1 = true ↔ s.kbd.wanted = some .b)
         ∧ (kbd.getLsbD 2 = true ↔ s.kbd.attached.a = true ∨ p = .a)
         ∧ (kbd.getLsbD 3 = true ↔ s.kbd.attached.b = true ∨ p = .b)
         ∧ kbd.getLsbD 4 = s.kbd.caps ∧ (kbd.getLsbD 5 = true ↔ s.kbd.repeatKey ≠ none)
         ∧ supply.toNat < 16
         ∧ supply.getLsbD 0 = s.monitor.batteryTaken ∧ supply.getLsbD 1 = s.monitor.headTaken
         ∧ supply.getLsbD 2 = s.monitor.supplyLow ∧ (supply.getLsbD 3 = true ↔ s.monitor.burst ≠ none)
         ∧ (∀ k mode, [s.settings.lampLine, s.settings.lampPaper, s.settings.lampSupply, s.settings.lampFocus][k]? =
           some mode → modes.toNat / 4 ^ k % 4 = lampModeNumber mode)
         ∧ ∀ k level, s.lampLevels[k]? = some level → levels.toNat / 4 ^ k % 4 = levelNumber level

/-- R133 to R139, R143 and R144: the choice at a selection point. Feed requests come first, then a hold wait keeps
everything else back, then print_mode decides between a ready live source, LDS before LCS, and the job R134 selects,
where one is eligible. The job becomes the current unit, a print chain ACTIVE, or a hold wait begins when a member is
held (R134, R135). A job's text is read from the slot store (R137). At a text-line boundary a withdrawal pending cuts
the job; else its next line is composed and handed, or it is complete and its chain DONE (R137 to R139, R143); the
lines the row engine reports complete are counted to 255, an FF's blank lines with them (assumption 19, DEDUCED). What
the buffer holds behind a unit is the model's (assumption 23), and so is a hold wait that goes on (assumption 32). -/
def Obligations.PrintUnitsAreChosenByRule : Prop :=
  (∀ s : State,
    let eligible (x : Job) : Prop := x ∈ s.arb.queue ∧ s.arb.masks.get x.owner = none
      ∧ (x.kind = .print → (s.slot x.slot).state = .queued ∧ (s.slot x.slot).chainHead = some x.slot)
    let other (x : Job) : Prop := x.owner = otherPort s.arb.lastJobPort
    ((∃ x, eligible x) → s.selectJob ≠ none)
    ∧ ∀ j, s.selectJob = some j → eligible j ∧ ∀ x, eligible x → x.priority ≤ j.priority
      ∧ (x.priority = j.priority → (other x → other j) ∧ (x.owner = j.owner → j.entry ≤ x.entry)))
  ∧ (∀ (s : State) (j : Job),
    let held : Prop := j.kind = .print ∧ ∃ m ∈ s.members j.slot, (s.slot m).hold = true
    let text (i : SlotId) : List Token := ((s.slot i).text.toList.take (s.slot i).length).map fun b => .byte b false
    let taken : State := match j.kind with
      | .print => s.chainRequest j.slot .print [.queued] .active none
      | .copy => s
      | .auto => s.setSlot j.slot { s.slot j.slot with job := .printing }
    (held → s.startJob j =
      { s with arb.holdWait := some ⟨j.slot, some (s.settings.holdTimeout * 1000)⟩ })
    ∧ (¬held → s.startJob j = { taken with
      arb := { s.arb with
        queue := s.arb.queue.filter fun k => ¬(k.kind = j.kind ∧ k.slot = j.slot)
        unit := .job j 0 0 0
        holdWait := none
        withdrawalPending := false
        lastUnit := .queue
        lastJobPort := j.owner } })
    ∧ (j.kind = .print ∨ (j.kind = .copy ∧ (s.slot j.slot).framing = .plain) →
      s.jobTokens j = (s.members j.slot).flatMap text)
    ∧ (j.kind = .copy → (s.slot j.slot).framing = .record →
      s.jobTokens j = (s.members j.slot).flatMap fun i => .fresh :: text i)
    ∧ (j.kind = .auto → s.jobTokens j = ((s.slot j.slot).text.toList.take (s.slot j.slot).length).mapIdx
      fun n b => .byte b ((s.slot j.slot).flaws.getLsbD n)))
  ∧ (∀ s : State,
    let handed (u : State) (l : TextLine) : State := { u with engine.line := some l, engine.step := 0 }.checkRow
    s.engineTakes = true → s.arb.unit = .none →
    (0 < s.arb.feeds → s.printOnce = some (handed ({ s with
      arb.feeds := s.arb.feeds - 1, arb.unit := .feed }.changePrintMarks fun r =>
        { r with feeds := r.feeds - 1, lineOwed := r.lineOwed || decide (0 < r.feeds) }) .blank))
    ∧ (s.arb.feeds = 0 → ∀ h w, s.arb.holdWait = some ⟨h, w⟩ →
      (s.chainHeld h = true → w ≠ none → s.printOnce = none)
      ∧ (s.chainHeld h = true → w = none → s.printOnce =
        some { s with arb.holdWait := some ⟨h, some (s.settings.holdTimeout * 1000)⟩ })
      ∧ (s.chainHeld h = false → ∀ j, (s.arb.queue.find? fun j => j.kind = .print ∧ j.slot = h) = some j →
        s.printOnce = some (s.startJob j))
      ∧ (s.chainHeld h = false → (∀ j ∈ s.arb.queue, ¬(j.kind = .print ∧ j.slot = h)) →
        s.printOnce = some { s with arb.holdWait := none }))
    ∧ (s.arb.feeds = 0 → s.arb.holdWait = none →
      let live : Prop := s.sourceReady .lds = true ∨ s.sourceReady .lcs = true
      let source : LiveSource := if s.sourceReady .lds then .lds else .lcs
      (¬live → s.selectJob = none → s.printOnce = none)
      ∧ (live → s.selectJob = none → s.printOnce = some (s.takeLive source))
      ∧ (¬live → ∀ j, s.selectJob = some j → s.printOnce = some (s.startJob j))
      ∧ (live → ∀ j, s.selectJob = some j →
        (s.settings.printMode = .liveFirst ∨ (s.settings.printMode = .alternate ∧ s.arb.lastUnit = .queue) →
          s.printOnce = some (s.takeLive source))
        ∧ (s.settings.printMode = .queueFirst ∨ (s.settings.printMode = .alternate ∧ s.arb.lastUnit = .live) →
          s.printOnce = some (s.startJob j)))))
  ∧ (∀ s : State,
    let ended : State := { s with arb.unit := .none, arb.buffer := LineBuffer.empty }.changePrintMarks fun r =>
      { r with lineOwed := false }
    (s.arb.unit = .none → s.lineComplete = s)
    ∧ (s.arb.unit = .feed → s.lineComplete = ended)
    ∧ ∀ src blanks, s.arb.unit = .live src blanks →
      (blanks = 0 → s.lineComplete = ended)
      ∧ (0 < blanks → s.lineComplete = s ∧ (s.engineTakes = true → s.printOnce = some ({ s with
        arb.unit := .live src (blanks - 1), engine.line := some .blank, engine.step := 0 }.checkRow))))
  ∧ ∀ (s : State) (j : Job) (position blanks lines : Nat), s.arb.unit = .job j position blanks lines →
    let ended (u : State) : State := { u with
      arb.unit := .none, arb.withdrawalPending := false, arb.buffer := LineBuffer.empty }.testPrintMarks
    let absent : State := s.setSlot j.slot { s.slot j.slot with job := .absent }
    let cut : State := ended (match j.kind with
      | .print => s.chainRequest j.slot .print [.active] .aborted (some .withdrawn)
      | .copy => s.chainRequest j.slot .send [.copying] .done (some .copyCut)
      | .auto => absent)
    let complete : State := ended (match j.kind with
      | .print => s.chainRequest j.slot .print [.active] .done (some .printed)
      | .copy => s.chainRequest j.slot .send [.copying] .done (some .sent)
      | .auto => absent)
    let c := jobCompose (s.jobTokens j) position
    let finished : Prop := blanks = 0 ∧ c.handout = none
    (s.arb.withdrawalPending = true → s.lineComplete = cut ∧ (s.engineTakes = true → s.printOnce = some cut))
    ∧ (s.arb.withdrawalPending = false →
      (finished → s.lineComplete = complete ∧ (s.engineTakes = true → s.printOnce = some complete))
      ∧ (¬finished → s.lineComplete = { s with arb.unit := .job j position blanks (min 255 (lines + 1)) })
      ∧ (s.engineTakes = true → 0 < blanks → s.printOnce = some ({ s with
        arb.unit := .job j position (blanks - 1) lines, arb.buffer := LineBuffer.empty
        engine.line := some .blank, engine.step := 0 }.checkRow))
      ∧ (s.engineTakes = true → blanks = 0 → ∀ h, c.handout = some h → s.printOnce = some ({ s with
        arb.unit := .job j (position + c.used) h.blanks lines, arb.buffer := c.buffer
        engine.line := some h.line, engine.step := 0 }.checkRow)))

/-- R132, R137 and R140 to R142: how a line is composed, byte by byte, flawed bytes as the flaw glyph, overstruck
glyphs two to a cell; which lines it hands, an FF with its 4 blank lines; an LF behind a CR in a job, the fresh-line
marks of empty members passed (assumption 17, DEDUCED). When a live source has a ready line, and what a take of one
does: its first bytes under the line-end state, the state after it, the bytes that leave (assumptions 16 and 18,
DEDUCED). A composition never passes column 80 and takes its bytes from the front; glyph bytes alone fill a line at 80
of them and leave the 81st for the next, and a CR behind at most 80 ends the line and is taken, behind exactly 80 of a
job's by the model's reading (assumption 18). -/
def Obligations.LinesHoldEightyColumns : Prop :=
  (∀ (ts : List Token) (l : LineBuffer) (used : Nat), l.column ≤ 80 →
    let c := composeFrom ts l used
    c.buffer.column ≤ 80 ∧ used ≤ c.used ∧ c.used ≤ used + ts.length)
  ∧ (∀ (b : Byte) (flawed : Bool) (ts : List Token) (l : LineBuffer) (used : Nat),
    let c := composeFrom (.byte b flawed :: ts) l used
    let glyph : Prop := flawed = true ∨ (0x20 ≤ b.toNat ∧ b.toNat ≤ 0x7E)
    let g : Glyph := if flawed then .flaw else .code b
    let content : Prop := 0 < l.column ∨ ∃ q : Fin 80, l.cells[q] ≠ .empty
    (glyph → 80 ≤ l.column → c = ⟨l, used, .full⟩)
    ∧ (glyph → l.column < 80 → c = composeFrom ts ⟨Vector.ofFn fun q : Fin 80 =>
        if q.val = l.column then (match l.cells[q] with
          | .empty => .one g
          | .one first => .two first g
          | .two first _ => .two first g) else l.cells[q], l.column + 1⟩ (used + 1))
    ∧ (¬glyph → b = 0x0D → c = ⟨l, used + 1, .cr⟩)
    ∧ (¬glyph → b = 0x0A → c = ⟨l, used + 1, .lf⟩)
    ∧ (¬glyph → b = 0x0C → c = ⟨l, used + 1, .ff⟩)
    ∧ (¬glyph → b = 0x09 → 72 ≤ l.column → c = ⟨l, used + 1, .tab⟩)
    ∧ (¬glyph → b = 0x09 → l.column < 72 → ∀ k, l.column < 8 * k → 8 * k ≤ l.column + 8 →
      c = composeFrom ts ⟨l.cells, 8 * k⟩ (used + 1))
    ∧ (¬glyph → b = 0x08 → c = composeFrom ts ⟨l.cells, l.column - 1⟩ (used + 1))
    ∧ (¬glyph → b ∉ [(0x0D : Byte), 0x0A, 0x0C, 0x09, 0x08] → c = composeFrom ts l (used + 1))
    ∧ composeFrom [] l used = ⟨l, used, .ranOut⟩
    ∧ (content → composeFrom (.fresh :: ts) l used = ⟨l, used + 1, .fresh⟩)
    ∧ (¬content → composeFrom (.fresh :: ts) l used = composeFrom ts l (used + 1))
    ∧ ∀ ending : Ending,
      let line : TextLine := if 0 < l.column ∨ ∃ q : Fin 80, l.cells[q] ≠ .empty then .cells l.cells else .blank
      let lines : Option (TextLine × Nat) := (Composed.handout ⟨l, used, ending⟩).map fun h => (h.line, h.blanks)
      (ending = .ranOut → lines = if 0 < l.column ∨ ∃ q : Fin 80, l.cells[q] ≠ .empty then some (line, 0) else none)
      ∧ (ending = .ff → lines =
        if 0 < l.column ∨ ∃ q : Fin 80, l.cells[q] ≠ .empty then some (line, 4) else some (.blank, 3))
      ∧ (ending ≠ .ranOut → ending ≠ .ff → lines = some (line, 0)))
  ∧ (∀ (n : Nat) (t : Token) (ts : List Token),
    followingLf (List.replicate n .fresh ++ .byte 0x0A false :: ts) = n + 1
    ∧ (t ≠ .byte 0x0A false → t ≠ .fresh → followingLf (List.replicate n .fresh ++ t :: ts) = 0)
    ∧ followingLf (List.replicate n .fresh) = 0)
  ∧ (∀ (ts : List Token) (position : Nat),
    let c := compose (ts.drop position)
    jobCompose ts position = { c with
      used := if c.ending = .cr then c.used + followingLf (ts.drop (position + c.used)) else c.used })
  ∧ (∀ (e : LineEnd) (ts : List Token),
    let cr : Token := .byte 0x0D false
    let lf : Token := .byte 0x0A false
    let composed (ts : List Token) (n : Nat) : Composed := composeFrom ts ⟨Vector.replicate 80 .empty, 0⟩ n
    liveCompose .normal ts = composed ts 0
    ∧ liveCompose .afterCr (lf :: ts) = composed ts 1
    ∧ (ts.head? ≠ some lf → liveCompose .afterCr ts = composed ts 0)
    ∧ liveCompose .afterFull (lf :: ts) = composed ts 1
    ∧ liveCompose .afterFull (cr :: lf :: ts) = composed ts 2
    ∧ (ts.head? ≠ some lf → liveCompose .afterFull (cr :: ts) = composed ts 1)
    ∧ (ts.head? ≠ some lf → ts.head? ≠ some cr → liveCompose .afterFull ts = composed ts 0))
  ∧ (∀ (s : State) (src : LiveSource),
    let c := liveCompose (match src with
      | .lds => s.arb.ldsEnd
      | .lcs => s.arb.lcsEnd) (s.liveTokens src)
    let after : LineEnd := match c.ending with
      | .cr => .afterCr
      | .full => .afterFull
      | .ranOut => if c.buffer.column = 80 then .afterFull else .normal
      | _ => .normal
    let left : State := match src with
      | .lds => { s with
        arb.lastUnit := .live, arb.ldsEnd := after, arb.unit := .live .lds 0 }.departFifo c.used true
      | .lcs => { s with
        arb.lastUnit := .live, arb.lcsEnd := after, arb.unit := .live .lcs 0 }.departCopy c.used
    (s.settings.sink = .print → s.liveTokens .lds = s.parser.fifo.map fun x => .byte x.byte x.flawed)
    ∧ (s.settings.sink ≠ .print → s.liveTokens .lds = [])
    ∧ s.liveTokens .lcs = s.arb.copyBuffer.map (fun b => .byte b false)
    ∧ (s.sourceReady src = true ↔ c.ending ≠ .ranOut ∨ c.buffer.column = 80 ∨ (s.liveTokens src ≠ [] ∧ (match src with
      | .lds => s.parser.silence.expired
      | .lcs => s.arb.silence.expired) = true))
    ∧ (c.handout = none → s.takeLive src = { left with
      arb.unit := .none, arb.buffer := LineBuffer.empty }.changePrintMarks fun r => { r with lineOwed := false })
    ∧ (∀ h, c.handout = some h → s.takeLive src = { left with
      arb.unit := .live src h.blanks, arb.buffer := c.buffer
      engine.line := some h.line, engine.step := 0 }.checkRow)
    ∧ s.departCopy 0 = s
    ∧ ∀ n, 0 < n → s.departCopy n = { s with arb.copyBuffer := s.arb.copyBuffer.drop n }.changePrintMarks fun r =>
      { r with lcs := r.lcs - n, lineOwed := r.lineOwed || decide (0 < r.lcs) })
  ∧ (∀ text rest : List Byte, (∀ b ∈ text, 0x20 ≤ b.toNat ∧ b.toNat ≤ 0x7E) →
    let tokens (l : List Byte) : List Token := l.map fun b => .byte b false
    (81 ≤ text.length → (compose (tokens text)).used = 80 ∧ (compose (tokens text)).ending = .full
      ∧ (compose (tokens text)).buffer.column = 80)
    ∧ (text.length ≤ 80 →
      let c := compose (tokens (text ++ 0x0D :: rest))
      c.used = text.length + 1 ∧ c.ending = .cr ∧ c.buffer.column = text.length
        ∧ ∀ q : Fin 80, c.buffer.cells[q] =
          match text[q.val]? with
          | some b => .one (.code b)
          | none => .empty))

/-! ## Row engine -/

/-- R154 and R155: the strobe times and the dot limit of a row. -/
def Obligations.StrobeTimesAndDotLimit : Prop :=
  (∀ (v : Nat) (th : Int) (density : Nat), density ≤ 15 →
    let t := max (-10) (min 70 th)
    let w := max 4200 (min 8000 v)
    let base := 900 - 8 * (t - 25)
    let td := max 250 (min 3000 (base.toNat * 36000000 / (w * w) * (48 + 2 * density) / 64))
    540 ≤ base ∧ base ≤ 1180 ∧ (th < 65 → 588 ≤ base)
    ∧ strobeFull v th density = td ∧ strobeRepeat (strobeFull v th density) = 3 * td / 4
    ∧ 187 ≤ 3 * td / 4 ∧ 63 ≤ td - 3 * td / 4
    ∧ dotLimit v = max 40 (min 160 ((w - 4000) / 12)))
  ∧ (∀ (p : Dots) (b : Nat), blockCount p b ≤ 40)
  ∧ (∀ s : State, ∃ f, s.fireRow.engine.firing = some f
    ∧ f.td = strobeFull s.monitor.v s.monitor.th s.settings.density ∧ f.ts = strobeRepeat f.td
    ∧ f.nmax = dotLimit s.monitor.v ∧ f.fresh = f.row &&& ~~~s.engine.previous ∧ s.fireRow.engine.previous = f.row)

/-- R156: the firing groups of a row. -/
def Obligations.FiringGroupsOfARow : Prop :=
  ∀ (p : Dots) (nmax : Nat), 40 ≤ nmax →
    let gs := firingGroups p nmax
    (∀ b < 16, (∃ g ∈ gs, g.getLsbD b = true) ↔ blockCount p b ≠ 0)
    ∧ gs.Pairwise (fun g h => ∀ b c : Nat, g.getLsbD b = true → h.getLsbD c = true → b < c)
    ∧ (∀ g ∈ gs, groupDots p g ≤ nmax ∧ groupDots p g ≠ 0)
    ∧ (∀ k g h, gs[k]? = some g → gs[k + 1]? = some h → ∀ c : Nat, h.getLsbD c = true →
      (∀ b < c, h.getLsbD b = false) → nmax < groupDots p g + blockCount p c)
    ∧ gs.length ≤ 16

/-- R152 and R153: the check before a glyph row. A row fires only on two judged measurements, 4200 mV or more and
below 65 °C, with SUPPLY and HEAT clear; otherwise it is held with every strobe off and nothing moved. A row that
fires begins its first group in the same event: its full pattern is latched, the group's strobes are asserted and Ts
runs; a row without black dots asserts none (R157 to R159). A reason newly set raises PRINT_STALL once to both
ports. -/
def Obligations.NoRowFiresBelowTheLimits : Prop :=
  ∀ s : State,
    let t := s.checkRow
    let judged : Prop := s.engine.batteryJudged = true ∧ s.engine.headJudged = true
    let low : Prop := s.monitor.v < 4200
    let hot : Prop := 65 ≤ s.monitor.th
    let entered : Prop := (s.engine.supply = false ∧ low) ∨ (s.engine.heat = false ∧ hot)
    (t.engine.state = .row ↔ judged ∧ s.engine.supply = false ∧ s.engine.heat = false ∧ ¬low ∧ ¬hot)
    ∧ (t.engine.state = .row → ∃ f, t.engine.firing = some f
      ∧ f.row = lineRow (s.engine.line.getD .blank) s.engine.step ∧ f.groups = firingGroups f.row f.nmax
      ∧ f.index = 0 ∧ t.engine.previous = f.row ∧ t.engine.record.groups = f.groups.length
      ∧ (f.groups = [] → f.phase = .done ∧ t.engine.latch = 0 ∧ t.engine.strobes = 0 ∧ t.engine.groupTimer = none)
      ∧ ∀ g gs, f.groups = g :: gs → f.phase = .phase1 ∧ t.engine.latch = f.row ∧ t.engine.strobes = g
        ∧ t.engine.groupTimer = some f.ts)
    ∧ (t.engine.state = .row → t.engine.record.v = s.monitor.v ∧ t.engine.record.th = s.monitor.th
      ∧ t.engine.stepTimer = some (max 2500 (if t.engine.record.groups = 0 then 0
        else t.engine.record.groups * (t.engine.record.td + 50) + 300)))
    ∧ (t.engine.state ≠ .row → t.engine.state = .held ∧ t.engine.strobes = 0 ∧ t.engine.firing = none
      ∧ t.engine.previous = s.engine.previous ∧ t.engine.step = s.engine.step ∧ t.engine.line = s.engine.line
      ∧ t.engine.phaseIndex = s.engine.phaseIndex ∧ t.engine.stepCounter = s.engine.stepCounter
      ∧ t.engine.record = s.engine.record)
    ∧ (¬judged → t.engine.supply = s.engine.supply ∧ t.engine.heat = s.engine.heat ∧ t.events = s.events)
    ∧ (judged → (t.engine.supply = true ↔ s.engine.supply = true ∨ low)
      ∧ (t.engine.heat = true ↔ s.engine.heat = true ∨ hot)
      ∧ (entered → t.events = (s.alertBoth .printStall).events) ∧ (¬entered → t.events = s.events))

/-- R157, R158 and R167: the phases of a firing group. At its beginning the row's full pattern is latched and its
strobes are asserted; at Ts the new dots alone stay latched; at Td every strobe is released, and a battery measurement
that waited for that is taken. That the latch is cleared in the event of the last group's Td is the model's choice
(assumption 43). A measurement still due at a step's end waits for the next strobe's end (assumption 21), and the
phase's end is taken whenever its command comes (assumption 2). A dot is heated while it is latched and the strobe of
its block of 40 is asserted (R158). -/
def Obligations.FiringOfAGroup : Prop :=
  (∀ (s : State) (d : Nat),
    s.heated d = true ↔ s.engine.latch.getLsbD d = true ∧ s.engine.strobes.getLsbD (d / 40) = true)
  ∧ ∀ (s : State) (f : Firing), s.engine.firing = some f →
    (f.phase = .gap → exec .groupBegin s = .next { s with
      engine.firing := some { f with phase := .phase1 }, engine.latch := f.row,
      engine.strobes := f.groups.getD f.index 0, engine.groupTimer := some f.ts })
    ∧ (f.phase = .phase1 → exec .groupPhase2 s = .next { s with
      engine.firing := some { f with phase := .phase2 }, engine.latch := f.fresh,
      engine.groupTimer := some (f.td - f.ts) })
    ∧ (∀ vbat : Nat, f.phase = .phase2 →
      let released : State :=
        if f.index + 1 < f.groups.length then
          { s with engine.firing := some { f with index := f.index + 1, phase := .gap }, engine.strobes := 0,
                   engine.groupTimer := some 50 }
        else
          { s with engine.firing := some { f with phase := .done }, engine.strobes := 0, engine.latch := 0,
                   engine.groupTimer := none }
      (s.monitor.batteryDue = false → exec (.groupStrobeEnd vbat) s = .next released)
      ∧ (s.monitor.batteryDue = true → exec (.groupStrobeEnd vbat) s = .next (released.measureBattery vbat)))

/-- R150, R159, R162 and R164: the end of a step moves the paper one motor step; the next glyph row is checked, a
blank step lasts 2500 µs, the sixteenth step completes the line, and a stop requested discards it. That the end of a
step is taken in any phase of its firing is the model's choice (assumption 21). The motor phases MPn and MPn+1 are
energised at phase index n while a line is present, and none in IDLE (R160). -/
def Obligations.StepEndMovesThePaper : Prop :=
  (∀ (s : State) (m : Fin 4), s.motorPins[m.val]? = some (decide (s.engine.state ≠ .idle
    ∧ (m = s.engine.phaseIndex ∨ m = s.engine.phaseIndex + 1))))
  ∧ ∀ s : State, s.engine.state = .row ∨ s.engine.state = .blank →
    let e := s.engine
    let moved : Engine := { e with
      phaseIndex := e.phaseIndex + 1, stepCounter := e.stepCounter + 1, firing := none, latch := 0, strobes := 0 }
    let idle : Engine := { moved with
      state := .idle, line := none, step := 0, stepTimer := none, groupTimer := none, stopRequested := false }
    (e.stopRequested = true → exec .stepEnd s = .next { s with engine := idle }.paperStall.settle)
    ∧ (e.stopRequested = false → e.step < 11 → exec .stepEnd s = .next { s with engine := { moved with
        step := e.step + 1, previous := if e.state = EngineState.blank then 0 else e.previous } }.checkRow)
    ∧ (e.stopRequested = false → 11 ≤ e.step → e.step < 15 → exec .stepEnd s = .next { s with engine := { moved with
        step := e.step + 1, previous := (if e.state = EngineState.blank then 0 else e.previous), state := .blank,
        stepTimer := some 2500, groupTimer := none } })
    ∧ (e.stopRequested = false → 15 ≤ e.step →
      exec .stepEnd s = .next (({ s with engine := { idle with previous := 0 } }.paperStall.lineComplete).settle))
    ∧ ∀ u : State, (u.engine.paperOutPending = false → u.paperStall = u)
      ∧ (u.engine.paperOutPending = true → u.paperStall =
        { u with engine.paper := true, engine.paperOutPending := false }.alertBoth .paperOut)

/-- R161 and R163: the paper samples and the paper-present timer, whose expiry is taken whenever it runs, by the
model's choice (assumption 2). -/
def Obligations.PaperSensor : Prop :=
  (∀ s : State, s.power ≠ .held →
    let out : State := { s with
      engine.sampleTimer := some 10000, engine.lastPaperOut := true, engine.paperTimer := none }
    (s.engine.paper = true → exec (.paperSample true) s = .next out)
    ∧ (s.engine.paper = false → s.engine.line = none → exec (.paperSample true) s =
      .next ({ out with engine.paper := true }.alertBoth .paperOut))
    ∧ (s.engine.paper = false → s.engine.line ≠ none →
      exec (.paperSample true) s = .next { out with engine.paperOutPending := true })
    ∧ exec (.paperSample false) s = .next { s with
      engine.sampleTimer := some 10000
      engine.lastPaperOut := false
      engine.paperTimer := if (s.engine.paper = true ∨ s.engine.paperOutPending = true) ∧ s.engine.paperTimer = none
        then some 1000000 else s.engine.paperTimer })
  ∧ ∀ s : State, s.engine.paperTimer ≠ none → exec .paperPresentExpired s = .next { s with
    engine.paper := false, engine.paperOutPending := false, engine.paperTimer := none }.settle

/-! ## Supply, lamps and beeper -/

/-- R153, R167 to R169, R171, R172: the monitor's events. A battery measurement is deferred under a strobe, recorded
in steps of 10 mV, judged for SUPPLY_LOW and for the SUPPLY reason; a head measurement is rounded to a degree. The pin
readings are the operands, in mV and thousandths of a degree, by the model's choice (assumption 27), and a timer's
expiry is taken whenever its command comes (assumption 2). R170 to R173: the level each lamp shows, by its mode and
its AUTO rule, and what LMP0 to LMP3 and BEEP do; the level a burst begins at is a free value (assumption 24). -/
def Obligations.MonitorEvents : Prop :=
  (∀ s : State,
    let shown (mode : LampMode) (auto : LampLevel) : LampLevel := match mode with
      | .auto => auto
      | .off => .dark
      | .on => .lit
      | .blink => .blinking
    s.lampLevels =
      [shown s.settings.lampLine (
        if s.sup.state = .calling ∨ s.sup.state = .answering ∨ s.sup.state = .clearing ∨ s.modem.carrier = .fading then
          .blinking
        else if s.sup.state = .online then .lit else .dark),
      shown s.settings.lampPaper (if s.engine.paper = true then .lit else .dark),
      shown s.settings.lampSupply (
        if s.engine.supply = true ∨ s.engine.heat = true then .lit
        else if s.monitor.supplyLow = true then .blinking else .dark),
      shown s.settings.lampFocus (
        if s.kbd.wanted ≠ none then .blinking else if s.kbd.focus = some .b then .lit else .dark)]
    ∧ (∀ (n : Nat) (level : LampLevel), s.lampLevels[n]? = some level → s.lampPins[n]? =
      some (decide (s.power ≠ .held ∧ (level = .lit ∨ (level = .blinking ∧ s.monitor.blinkLit = true)))))
    ∧ (s.monitor.burst = none → s.beepPin = false)
    ∧ ∀ e, e ≤ 100000 → s.monitor.burst = some (100000 - e) →
      s.beepPin = if e / 250 % 2 = 0 then Config.beepStart else !Config.beepStart)
  ∧ ∀ s : State, s.power ≠ .held →
    (∀ vbat : Nat,
      let v := if 9990 < vbat then 9990 else vbat / 10 * 10
      let low : Bool := if s.monitor.supplyLow then decide (v < 4800) else decide (v < 4600)
      let measured : State := { s with
        monitor.v := v, monitor.batteryTaken := true, monitor.batteryDue := false, monitor.supplyLow := low,
        monitor.batteryTimer := some 10000, engine.batteryJudged := true,
        engine.supply := s.engine.supply && decide (v < 4400) }
      (s.engine.strobes ≠ 0 → exec (.batteryTimerExpired vbat) s = .next { s with
        monitor.batteryTimer := some 10000, monitor.batteryDue := true })
      ∧ (s.engine.strobes = 0 → s.engine.state ≠ .held → exec (.batteryTimerExpired vbat) s =
        .next (if low && !s.monitor.supplyLow then measured.alertBoth .supplyLow else measured))
      ∧ (s.engine.strobes = 0 → s.engine.state = .held →
        let warned := if low && !s.monitor.supplyLow then measured.alertBoth .supplyLow else measured
        exec (.batteryTimerExpired vbat) s = .next (
          if (s.engine.supply = true ∧ 4400 ≤ v) ∨ (s.engine.batteryJudged = false ∧ s.engine.headJudged = true)
          then warned.checkRow else warned)))
    ∧ (∀ thm : Int,
      let th := max (-20) (min 90 ((thm + 500) / 1000))
      let measured : State := { s with
        monitor.th := th, monitor.headTaken := true, monitor.headTimer := some 100000, engine.headJudged := true,
        engine.heat := s.engine.heat && !decide (th ≤ 55) }
      exec (.headTimerExpired thm) s = .next (
        if s.engine.state = .held
            ∧ ((s.engine.heat = true ∧ th ≤ 55) ∨ (s.engine.headJudged = false ∧ s.engine.batteryJudged = true))
        then measured.checkRow else measured))
    ∧ exec .blinkClockToggle s = .next { s with
      monitor.blinkLit := !s.monitor.blinkLit, monitor.blinkTimer := some 250000 }
    ∧ exec .burstTimerExpired s = .next { s with monitor.burst := none }
    ∧ (s.settings.beeper = false → s.beep = s)
    ∧ (s.settings.beeper = true → s.beep = { s with monitor.burst := some (s.monitor.burst.getD 100000) })

/-! ## Event units -/

/-- R175, R176 and R180: an event raised for a port sets the flag of its source with the detail, counts to 255, and
touches neither masks nor the other unit; an alert does so, with the latched set, where its enable is on; the
interrupt output is a level. R177, R179, R181 and R182: SET EVENT MASK, ACK EVENT, SET ALERT ENABLES and READ ALERTS;
and R178's READ EVENT, which reports the first pending unmasked source behind the pointer and changes nothing. -/
def Obligations.EventUnits : Prop :=
  (∀ (s : State) (p : Port),
     let u := s.events.get p
     (∀ d : EventDetail, s.raise p d = { s with events := s.events.set p { u with
         sources := u.sources.set d.source (some ⟨d, min 255 (u.occurrences d.source + 1)⟩) } })
     ∧ (∀ c : Alert, u.enables.getLsbD c.index = false → s.alert p c = s)
     ∧ (∀ c : Alert, u.enables.getLsbD c.index = true →
       let latched := u.latched ||| BitVec.ofNat 8 (2 ^ c.index)
       s.alert p c = { s with events := s.events.set p { u with
         latched := latched
         sources := u.sources.set 6 (some ⟨.alert c latched, min 255 (u.occurrences 6 + 1)⟩) } })
     ∧ (s.interruptAsserted p = true ↔
       s.power ≠ .held ∧ ∃ n : Fin 8, u.sources[n] ≠ none ∧ u.masks.getLsbD n.val = false))
  ∧ (∀ (s : State) (p : Port), s.portServes p = true →
       let s1 := s.attach p
       let u := s.events.get p
       let with_ (v : EventUnit) : State := { s1 with events := s.events.set p v }
       (∀ m, exec (.setEventMask p m) s = .next ((with_ { u with masks := m }).respond p ⟨.ok, []⟩))
       ∧ (∀ m, exec (.setAlertEnables p m) s = .next ((with_ { u with enables := m }).respond p ⟨.ok, []⟩))
       ∧ (u.latched = 0 → exec (.readAlerts p) s = .next (s.answeredOnly p .empty))
       ∧ (u.latched ≠ 0 → exec (.readAlerts p) s =
         .next ((with_ { u with latched := 0 }).respond p ⟨.ok, [u.latched]⟩))
       ∧ (∀ b : Byte, 8 ≤ b.toNat → exec (.ackEvent p b) s = .next (s.answeredOnly p .badArg))
       ∧ (∀ (b : Byte) (n : Fin 8), b.toNat = n.val →
         (u.sources[n] = none → exec (.ackEvent p b) s = .next (s.answeredOnly p .empty))
         ∧ ∀ o, u.sources[n] = some o → ∃ detail : List Byte, detail.length = 3 ∧ detail = detailBytes o.detail
           ∧ exec (.ackEvent p b) s = .next ((with_ { u with sources := u.sources.set n none, pointer := n }).respond p
             ⟨.ok, b :: BitVec.ofNat 8 o.count :: detail⟩))
       ∧ ∃ r : Response, exec (.readEvent p) s = .next (s1.respond p r) ∧ r.data.length = 7
         ∧ (∃ flags : Byte, r.data[2]? = some flags ∧ ∀ n : Fin 8, flags.getLsbD n.val = (u.sources[n]).isSome)
         ∧ r.data[3]? = some u.masks
         ∧ (r.code = .ok ∨ r.code = .empty)
         ∧ (r.code = .ok ↔ ∃ n : Fin 8, u.sources[n] ≠ none ∧ u.masks.getLsbD n.val = false)
         ∧ (r.code = .empty → r.data[0]? = some 0xFF)
         ∧ ∀ (k : Fin 8) (o : Occurrence), u.sources[u.pointer + 1 + k] = some o →
           u.masks.getLsbD (u.pointer + 1 + k).val = false →
           (∀ j < k, u.sources[u.pointer + 1 + j] = none ∨ u.masks.getLsbD (u.pointer + 1 + j).val = true) →
           r.data[0]? = some (BitVec.ofNat 8 (u.pointer + 1 + k).val) ∧ r.data[1]? = some (BitVec.ofNat 8 o.count)
             ∧ r.data.drop 4 = detailBytes o.detail)

/-! ## Settings and the part -/

/-- R191, R192: CONFIGURE stores a permitted value, and nothing else changes but what the new value brings at once:
beeper_enable OFF ends a burst (R172), an open_text_sink other than PRINT takes the receive direct FIFO from the
pending print drain marks (R145), and with a sink or a print_mode stored the arbiter looks again at what it may print
(R133). READ SETTING reads the value back as stored. -/
def Obligations.ConfigureAndReadSetting : Prop :=
  ∀ (s : State) (p : Port) (b : Byte) (value : BitVec 16), s.portServes p = true →
    let v := value.toNat
    let stored (w : Nat) (c : Result) : Prop := ∃ new : Settings,
      (∀ k : Setting, new.value k = if settingArg b = some k then w else s.settings.value k)
      ∧ (let u : State := { s.attach p with settings := new }
        let t : State :=
          if b = 24 ∧ w = 0 then { u with monitor.burst := none }
          else if b = 13 ∧ w = 0 then u.settle
          else if b = 13 then (u.changePrintMarks fun r => { r with lds := 0 }).settle
          else if b = 14 then u.settle
          else u
        exec (.configure p b value) s = .next (t.respond p ⟨c, []⟩)
        ∧ exec (.readSetting p b) t = .next (t.respond p ⟨.ok, [BitVec.ofNat 8 (w / 256), BitVec.ofNat 8 w]⟩))
    (25 ≤ b.toNat → exec (.configure p b value) s = .next (s.answeredOnly p .badArg)
      ∧ exec (.readSetting p b) s = .next (s.answeredOnly p .badArg))
    ∧ (b.toNat ≤ 10 → s.sup.state ≠ .idle → exec (.configure p b value) s = .next (s.answeredOnly p .lineBusy))
    ∧ (b.toNat ≤ 24 → ∃ w : Nat, exec (.readSetting p b) s = .next ((s.attach p).respond p
      ⟨.ok, [BitVec.ofNat 8 (w / 256), BitVec.ofNat 8 w]⟩) ∧ ∀ k, settingArg b = some k → w = s.settings.value k)
    ∧ (11 ≤ b.toNat ∨ s.sup.state = .idle →
      (∀ lo hi st, (b, lo, hi, st) ∈ [((1 : Byte), 7, 8, 1), (3, 1, 2, 1), (4, 50, 500, 10), (5, 100, 2500, 100),
          (6, 5, 60, 1), (7, 1, 15, 1), (8, 1, 15, 1), (11, 500, 5000, 100), (12, 250, 4000, 250), (15, 0, 15, 1),
          (16, 250, 1000, 50), (17, 5, 30, 1)] →
        let w := if v < lo then lo else if hi < v then hi else lo + (v - lo) / st * st
        stored w (if w = v then .ok else .okClamped))
      ∧ (b = 0 → let w := if v < 150 then 110 else if v < 300 then 150 else 300
        stored w (if w = v then .ok else .okClamped))
      ∧ (b = 9 → let w := if v = 0 then 0 else if v < 10 then 10 else if 255 < v then 255 else v
        stored w (if w = v then .ok else .okClamped))
      ∧ ∀ n, (b, n) ∈ [((2 : Byte), 4), (10, 3), (13, 4), (14, 3), (18, 3), (19, 3), (20, 4), (21, 4), (22, 4),
          (23, 4), (24, 2)] →
        (n ≤ v → exec (.configure p b value) s = .next (s.answeredOnly p .badArg)) ∧ (v < n → stored v .ok))

/-- R4, R47, R63, R84, R127, R129, R164, R166, R174, R189: CONTROLLER RESET, what every block loses and what it keeps.
In IDLE nothing is stopped at the row engine; a step under way keeps its line, its strobes and its timers and runs to
its end with the stop requested; a held line is discarded (R164). That the latch of a held line is then empty is the
model's choice (assumption 44). That the sample position is 0 outside a character is the model's choice (assumption
45). -/
def Obligations.ControllerResetKeepsTheSettings : Prop :=
  ∀ (s : State) (p : Port), s.portServes p = true →
    ∃ t : State, exec (.controllerReset p) s = .next (t.respond p ⟨.ok, []⟩)
      ∧ (∀ i : SlotId, t.slot i = { s.slot i with
          state := if (s.slot i).chains ∧ (s.slot i).state ∈ [SlotState.queued, .active, .copying] then .aborted
            else (s.slot i).state
          outcome := if (s.slot i).chains ∧ (s.slot i).state ∈ [SlotState.queued, .active, .copying]
            then some .controllerReset else (s.slot i).outcome
          hold := false
          job := .absent })
      ∧ t.modem = State.reset.modem ∧ t.sup = State.reset.sup ∧ t.parser = State.reset.parser
      ∧ t.sched = State.reset.sched
      ∧ t.kbd = { State.reset.kbd with attached := s.kbd.attached.set p true, scanTimer := s.kbd.scanTimer }
      ∧ t.arb = { State.reset.arb with issued := s.arb.issued }
      ∧ (∀ q, t.events.get q = { State.reset.events.get q with
          masks := (s.events.get q).masks, enables := (s.events.get q).enables })
      ∧ t.settings = s.settings ∧ t.portA = s.portA ∧ t.lastB = s.lastB ∧ t.addrHigh = s.addrHigh
      ∧ t.power = s.power ∧ t.pending = s.pending
      ∧ t.monitor = { s.monitor with batteryTaken := false, headTaken := false, supplyLow := false, burst := none }
      ∧ (let cleared : Engine := { s.engine with
          previous := 0, supply := false, heat := false, paper := false, batteryJudged := false, headJudged := false
          paperOutPending := false, paperTimer := none }
        (s.engine.state = .idle → t.engine = cleared)
        ∧ (s.engine.state = .row ∨ s.engine.state = .blank → t.engine = { cleared with stopRequested := true })
        ∧ (s.engine.state = .held → t.engine = { cleared with
          state := .idle, line := none, step := 0, firing := none, latch := 0, strobes := 0, stepTimer := none
          groupTimer := none }))
end

