-- ==== Sys2Proof/Laws/Choice.lean ====
section
/-! SUPPORT. What the selection rule of R89 and R134 chooses, when the line buffer has content, what the carrier-on
and carrier-off requests do, and where a character that is no in-line control goes. -/

namespace Sys2Proof.Machine

open Sys2Proof

/-! ## Selection -/

/-- A list with an element has a least one. -/
theorem leastBy_isSome {α : Type} (f : α → Nat) {l : List α} (h : l ≠ []) : (leastBy f l).isSome = true := by
  cases l with
  | nil => contradiction
  | cons x xs => simp only [leastBy]; split <;> (try split) <;> rfl

/-- The least element of a list is one of it, and none is below it. -/
theorem leastBy_some {α : Type} {f : α → Nat} {l : List α} {x : α} (h : leastBy f l = some x) :
    x ∈ l ∧ ∀ y ∈ l, f x ≤ f y := by
  induction l generalizing x with
  | nil => contradiction
  | cons a as ih =>
    simp only [leastBy] at h
    split at h
    · next none =>
      cases as with
      | nil => obtain rfl := Option.some.inj h; simp
      | cons b bs =>
        have := leastBy_isSome f (List.cons_ne_nil b bs)
        simp [none] at this
    · next y hy =>
      obtain ⟨mem, least⟩ := ih hy
      split at h <;> obtain rfl := Option.some.inj h
      · exact ⟨by simp, fun z hz => by
          rcases List.mem_cons.1 hz with rfl | hz
          · exact Nat.le_refl _
          · have := least z hz; omega⟩
      · exact ⟨by simp [mem], fun z hz => by
          rcases List.mem_cons.1 hz with rfl | hz
          · omega
          · exact least z hz⟩

/-- The top priority of a list is reached in it, and none is above it. -/
theorem foldl_max_le (l : List Nat) (n : Nat) :
    n ≤ l.foldl max n ∧ (∀ x ∈ l, x ≤ l.foldl max n) ∧ (l.foldl max n = n ∨ l.foldl max n ∈ l) := by
  induction l generalizing n with
  | nil => simp
  | cons a as ih =>
    obtain ⟨above, all, reached⟩ := ih (max n a)
    refine ⟨by simp only [List.foldl_cons]; omega, fun x hx => ?_, ?_⟩
    · rcases List.mem_cons.1 hx with rfl | hx
      · simp only [List.foldl_cons]; omega
      · exact all x hx
    · simp only [List.foldl_cons, List.mem_cons]
      rcases reached with h | h
      · rw [h]; omega
      · exact .inr (.inr h)

/-- A unit is selected wherever one is eligible (R89, R134). -/
theorem pickUnit_ne_none {α : Type} (pr en : α → Nat) (ow : α → Option Port) (last : Port) {l : List α} (h : l ≠ []) :
    pickUnit pr en ow last l ≠ none := by
  have best : (l.filter fun x => pr x = (l.map pr).foldl max 0) ≠ [] := by
    obtain ⟨x, hx⟩ := List.exists_mem_of_ne_nil l h
    obtain ⟨-, all, reached⟩ := foldl_max_le (l.map pr) 0
    have : ∃ y ∈ l, pr y = (l.map pr).foldl max 0 := by
      rcases reached with h0 | h0
      · exact ⟨x, hx, by have := all (pr x) (List.mem_map_of_mem hx); omega⟩
      · obtain ⟨y, hy, e⟩ := List.mem_map.1 h0; exact ⟨y, hy, e⟩
    obtain ⟨y, hy, e⟩ := this
    exact List.ne_nil_of_mem (List.mem_filter.2 ⟨hy, by simpa using e⟩)
  rw [← Option.isSome_iff_ne_none]
  simp only [pickUnit]
  apply leastBy_isSome
  split
  · exact best
  · next h => simpa using h

/-- What the unit selected is (R89, R134): eligible, of the highest priority, of the port that did not have the last
where that port has one of it, and of its port's lowest entry number. -/
theorem pickUnit_some {α : Type} {pr en : α → Nat} {ow : α → Option Port} {last : Port} {l : List α} {q : α}
    (h : pickUnit pr en ow last l = some q) :
    q ∈ l ∧ ∀ x ∈ l, pr x ≤ pr q ∧ (pr x = pr q →
      (ow x = some (otherPort last) → ow q = some (otherPort last)) ∧
      (ow x = ow q → en q ≤ en x)) := by
  obtain ⟨-, all, -⟩ := foldl_max_le (l.map pr) 0
  obtain ⟨mem, least⟩ := leastBy_some h
  have none_of : ∀ x ∈ l, pr x = (l.map pr).foldl max 0 →
      ((l.filter fun x => pr x = (l.map pr).foldl max 0).filter fun x => ow x = some (otherPort last)).isEmpty = true →
      ow x ≠ some (otherPort last) := fun x hx hp he ho => by
    simp only [List.isEmpty_iff, List.filter_eq_nil_iff, List.mem_filter, decide_eq_true_eq] at he
    exact he x ⟨hx, hp⟩ ho
  split at mem
  · next he =>
    rw [if_pos he] at least
    simp only [List.mem_filter, decide_eq_true_eq] at mem least
    refine ⟨mem.1, fun x hx => ⟨?_, fun hp => ⟨fun ho => absurd ho (none_of x hx (hp.trans mem.2) he), fun _ => ?_⟩⟩⟩
    · have := all (pr x) (List.mem_map_of_mem hx); omega
    · exact least x ⟨hx, hp.trans mem.2⟩
  · next he =>
    rw [if_neg he] at least
    simp only [List.mem_filter, decide_eq_true_eq] at mem least
    refine ⟨mem.1.1, fun x hx => ⟨?_, fun hp => ⟨fun _ => mem.2, fun ho => ?_⟩⟩⟩
    · have := all (pr x) (List.mem_map_of_mem hx); omega
    · exact least x ⟨⟨hx, hp.trans mem.1.2⟩, ho.trans mem.2⟩

/-! ## Line buffer -/

/-- A line has content when its column is above 0 or a cell holds a glyph (R142). -/
theorem LineBuffer.hasContent_iff (l : LineBuffer) :
    l.hasContent = true ↔ 0 < l.column ∨ ∃ q : Fin 80, l.cells[q] ≠ .empty := by
  simp only [LineBuffer.hasContent, Bool.or_eq_true, decide_eq_true_eq, List.any_eq_true]
  refine or_congr_right ⟨fun ⟨x, hx, h⟩ => ?_, fun ⟨q, h⟩ => ⟨l.cells[q], by simp, h⟩⟩
  obtain ⟨n, hn, rfl⟩ := List.mem_iff_getElem.1 hx
  exact ⟨⟨n, by simpa using hn⟩, by simpa using h⟩

/-! ## Carrier on and off -/

/-- A carrier-on from OFF, or behind a carrier-off that waits, starts the mark tone from phase 0 (R29, R49). -/
theorem Modem.carrierOn_starts {m : Modem} (h : m.modulator = .off ∨ m.offDue = true) :
    m.carrierOn = { m with modulator := .markIdle, offDue := false, phase := 0, sampleClock := 0 } := by
  simp [Modem.carrierOn, h]

/-- A carrier-on with the carrier on and no carrier-off waiting changes nothing (R29). -/
theorem Modem.carrierOn_already {m : Modem} (h : ¬(m.modulator = .off ∨ m.offDue = true)) : m.carrierOn = m := by
  simp [Modem.carrierOn, h]

/-- After a carrier-on the carrier is on, and stays so at the next sample (R47). -/
theorem Modem.carrierOn_on (m : Modem) : m.carrierOn.modulator ≠ .off ∧ m.carrierOn.offDue = false := by
  by_cases h : m.modulator = .off ∨ m.offDue = true
  · simp [Modem.carrierOn_starts h]
  · rw [Modem.carrierOn_already h]; simpa using h

@[simp] theorem Modem.carrierOff_off {m : Modem} (h : m.modulator = .off) : m.carrierOff = m := by
  simp [Modem.carrierOff, h]

@[simp] theorem Modem.carrierOff_on {m : Modem} (h : m.modulator ≠ .off) : m.carrierOff = { m with offDue := true } := by
  simp [Modem.carrierOff, h]

@[simp] theorem Modem.enterOff_modulator (m : Modem) : m.enterOff.modulator = .off := rfl
@[simp] theorem Modem.enterOff_offDue (m : Modem) : m.enterOff.offDue = false := rfl
@[simp] theorem Modem.enterOff_phase (m : Modem) : m.enterOff.phase = 0 := rfl
@[simp] theorem Modem.enterOff_sampleClock (m : Modem) : m.enterOff.sampleClock = 0 := rfl

/-! ## Characters -/

/-- A character that is no in-line control is counted and goes to the parser's state (R64, R66 to R69). -/
theorem State.takeCharacter_data {b : Byte} {flawed : Bool}
    (h : ¬(flawed = false ∧ b ∈ [(0x11 : Byte), 0x13, 0x06, 0x15, 0x05])) (s : State) :
    s.takeCharacter b flawed = (s.count fun c =>
      { c with received := bump c.received, flawed := if flawed then bump c.flawed else c.flawed }).takeData b flawed := by
  have : inLine b flawed = none := by
    unfold inLine; cases flawed <;> simp_all
  simp [State.takeCharacter, this]

end Sys2Proof.Machine
end

