-- ==== Sys2Proof/Laws/State.lean ====
section
/-! SUPPORT. What the shared updates leave alone: one lemma per field per update, for the simplifier. -/

namespace Sys2Proof.Machine

open Sys2Proof

/-! ## Small updates: every field they leave alone -/

@[simp] theorem State.raise_slots (s : State) (p : Port) (d : EventDetail) : (s.raise p d).slots = s.slots := rfl
@[simp] theorem State.raise_modem (s : State) (p : Port) (d : EventDetail) : (s.raise p d).modem = s.modem := rfl
@[simp] theorem State.raise_sup (s : State) (p : Port) (d : EventDetail) : (s.raise p d).sup = s.sup := rfl
@[simp] theorem State.raise_parser (s : State) (p : Port) (d : EventDetail) : (s.raise p d).parser = s.parser := rfl
@[simp] theorem State.raise_sched (s : State) (p : Port) (d : EventDetail) : (s.raise p d).sched = s.sched := rfl
@[simp] theorem State.raise_kbd (s : State) (p : Port) (d : EventDetail) : (s.raise p d).kbd = s.kbd := rfl
@[simp] theorem State.raise_arb (s : State) (p : Port) (d : EventDetail) : (s.raise p d).arb = s.arb := rfl
@[simp] theorem State.raise_engine (s : State) (p : Port) (d : EventDetail) : (s.raise p d).engine = s.engine := rfl
@[simp] theorem State.raise_monitor (s : State) (p : Port) (d : EventDetail) : (s.raise p d).monitor = s.monitor := rfl
@[simp] theorem State.raise_settings (s : State) (p : Port) (d : EventDetail) : (s.raise p d).settings = s.settings := rfl
@[simp] theorem State.raise_portA (s : State) (p : Port) (d : EventDetail) : (s.raise p d).portA = s.portA := rfl
@[simp] theorem State.raise_lastB (s : State) (p : Port) (d : EventDetail) : (s.raise p d).lastB = s.lastB := rfl
@[simp] theorem State.raise_addrHigh (s : State) (p : Port) (d : EventDetail) : (s.raise p d).addrHigh = s.addrHigh := rfl
@[simp] theorem State.raise_power (s : State) (p : Port) (d : EventDetail) : (s.raise p d).power = s.power := rfl
@[simp] theorem State.raise_startupTimer (s : State) (p : Port) (d : EventDetail) : (s.raise p d).startupTimer = s.startupTimer := rfl
@[simp] theorem State.raise_startups (s : State) (p : Port) (d : EventDetail) : (s.raise p d).startups = s.startups := rfl
@[simp] theorem State.raise_pending (s : State) (p : Port) (d : EventDetail) : (s.raise p d).pending = s.pending := rfl
@[simp] theorem State.raiseBoth_slots (s : State) (d : EventDetail) : (s.raiseBoth d).slots = s.slots := rfl
@[simp] theorem State.raiseBoth_modem (s : State) (d : EventDetail) : (s.raiseBoth d).modem = s.modem := rfl
@[simp] theorem State.raiseBoth_sup (s : State) (d : EventDetail) : (s.raiseBoth d).sup = s.sup := rfl
@[simp] theorem State.raiseBoth_parser (s : State) (d : EventDetail) : (s.raiseBoth d).parser = s.parser := rfl
@[simp] theorem State.raiseBoth_sched (s : State) (d : EventDetail) : (s.raiseBoth d).sched = s.sched := rfl
@[simp] theorem State.raiseBoth_kbd (s : State) (d : EventDetail) : (s.raiseBoth d).kbd = s.kbd := rfl
@[simp] theorem State.raiseBoth_arb (s : State) (d : EventDetail) : (s.raiseBoth d).arb = s.arb := rfl
@[simp] theorem State.raiseBoth_engine (s : State) (d : EventDetail) : (s.raiseBoth d).engine = s.engine := rfl
@[simp] theorem State.raiseBoth_monitor (s : State) (d : EventDetail) : (s.raiseBoth d).monitor = s.monitor := rfl
@[simp] theorem State.raiseBoth_settings (s : State) (d : EventDetail) : (s.raiseBoth d).settings = s.settings := rfl
@[simp] theorem State.raiseBoth_portA (s : State) (d : EventDetail) : (s.raiseBoth d).portA = s.portA := rfl
@[simp] theorem State.raiseBoth_lastB (s : State) (d : EventDetail) : (s.raiseBoth d).lastB = s.lastB := rfl
@[simp] theorem State.raiseBoth_addrHigh (s : State) (d : EventDetail) : (s.raiseBoth d).addrHigh = s.addrHigh := rfl
@[simp] theorem State.raiseBoth_power (s : State) (d : EventDetail) : (s.raiseBoth d).power = s.power := rfl
@[simp] theorem State.raiseBoth_startupTimer (s : State) (d : EventDetail) : (s.raiseBoth d).startupTimer = s.startupTimer := rfl
@[simp] theorem State.raiseBoth_startups (s : State) (d : EventDetail) : (s.raiseBoth d).startups = s.startups := rfl
@[simp] theorem State.raiseBoth_pending (s : State) (d : EventDetail) : (s.raiseBoth d).pending = s.pending := rfl
@[simp] theorem State.alert_slots (s : State) (p : Port) (c : Alert) : (s.alert p c).slots = s.slots := rfl
@[simp] theorem State.alert_modem (s : State) (p : Port) (c : Alert) : (s.alert p c).modem = s.modem := rfl
@[simp] theorem State.alert_sup (s : State) (p : Port) (c : Alert) : (s.alert p c).sup = s.sup := rfl
@[simp] theorem State.alert_parser (s : State) (p : Port) (c : Alert) : (s.alert p c).parser = s.parser := rfl
@[simp] theorem State.alert_sched (s : State) (p : Port) (c : Alert) : (s.alert p c).sched = s.sched := rfl
@[simp] theorem State.alert_kbd (s : State) (p : Port) (c : Alert) : (s.alert p c).kbd = s.kbd := rfl
@[simp] theorem State.alert_arb (s : State) (p : Port) (c : Alert) : (s.alert p c).arb = s.arb := rfl
@[simp] theorem State.alert_engine (s : State) (p : Port) (c : Alert) : (s.alert p c).engine = s.engine := rfl
@[simp] theorem State.alert_monitor (s : State) (p : Port) (c : Alert) : (s.alert p c).monitor = s.monitor := rfl
@[simp] theorem State.alert_settings (s : State) (p : Port) (c : Alert) : (s.alert p c).settings = s.settings := rfl
@[simp] theorem State.alert_portA (s : State) (p : Port) (c : Alert) : (s.alert p c).portA = s.portA := rfl
@[simp] theorem State.alert_lastB (s : State) (p : Port) (c : Alert) : (s.alert p c).lastB = s.lastB := rfl
@[simp] theorem State.alert_addrHigh (s : State) (p : Port) (c : Alert) : (s.alert p c).addrHigh = s.addrHigh := rfl
@[simp] theorem State.alert_power (s : State) (p : Port) (c : Alert) : (s.alert p c).power = s.power := rfl
@[simp] theorem State.alert_startupTimer (s : State) (p : Port) (c : Alert) : (s.alert p c).startupTimer = s.startupTimer := rfl
@[simp] theorem State.alert_startups (s : State) (p : Port) (c : Alert) : (s.alert p c).startups = s.startups := rfl
@[simp] theorem State.alert_pending (s : State) (p : Port) (c : Alert) : (s.alert p c).pending = s.pending := rfl
@[simp] theorem State.alertBoth_slots (s : State) (c : Alert) : (s.alertBoth c).slots = s.slots := rfl
@[simp] theorem State.alertBoth_modem (s : State) (c : Alert) : (s.alertBoth c).modem = s.modem := rfl
@[simp] theorem State.alertBoth_sup (s : State) (c : Alert) : (s.alertBoth c).sup = s.sup := rfl
@[simp] theorem State.alertBoth_parser (s : State) (c : Alert) : (s.alertBoth c).parser = s.parser := rfl
@[simp] theorem State.alertBoth_sched (s : State) (c : Alert) : (s.alertBoth c).sched = s.sched := rfl
@[simp] theorem State.alertBoth_kbd (s : State) (c : Alert) : (s.alertBoth c).kbd = s.kbd := rfl
@[simp] theorem State.alertBoth_arb (s : State) (c : Alert) : (s.alertBoth c).arb = s.arb := rfl
@[simp] theorem State.alertBoth_engine (s : State) (c : Alert) : (s.alertBoth c).engine = s.engine := rfl
@[simp] theorem State.alertBoth_monitor (s : State) (c : Alert) : (s.alertBoth c).monitor = s.monitor := rfl
@[simp] theorem State.alertBoth_settings (s : State) (c : Alert) : (s.alertBoth c).settings = s.settings := rfl
@[simp] theorem State.alertBoth_portA (s : State) (c : Alert) : (s.alertBoth c).portA = s.portA := rfl
@[simp] theorem State.alertBoth_lastB (s : State) (c : Alert) : (s.alertBoth c).lastB = s.lastB := rfl
@[simp] theorem State.alertBoth_addrHigh (s : State) (c : Alert) : (s.alertBoth c).addrHigh = s.addrHigh := rfl
@[simp] theorem State.alertBoth_power (s : State) (c : Alert) : (s.alertBoth c).power = s.power := rfl
@[simp] theorem State.alertBoth_startupTimer (s : State) (c : Alert) : (s.alertBoth c).startupTimer = s.startupTimer := rfl
@[simp] theorem State.alertBoth_startups (s : State) (c : Alert) : (s.alertBoth c).startups = s.startups := rfl
@[simp] theorem State.alertBoth_pending (s : State) (c : Alert) : (s.alertBoth c).pending = s.pending := rfl
@[simp] theorem State.raiseKeys_slots (s : State) (p : Port) (r : KeysReason) : (s.raiseKeys p r).slots = s.slots := rfl
@[simp] theorem State.raiseKeys_modem (s : State) (p : Port) (r : KeysReason) : (s.raiseKeys p r).modem = s.modem := rfl
@[simp] theorem State.raiseKeys_sup (s : State) (p : Port) (r : KeysReason) : (s.raiseKeys p r).sup = s.sup := rfl
@[simp] theorem State.raiseKeys_parser (s : State) (p : Port) (r : KeysReason) : (s.raiseKeys p r).parser = s.parser := rfl
@[simp] theorem State.raiseKeys_sched (s : State) (p : Port) (r : KeysReason) : (s.raiseKeys p r).sched = s.sched := rfl
@[simp] theorem State.raiseKeys_kbd (s : State) (p : Port) (r : KeysReason) : (s.raiseKeys p r).kbd = s.kbd := rfl
@[simp] theorem State.raiseKeys_arb (s : State) (p : Port) (r : KeysReason) : (s.raiseKeys p r).arb = s.arb := rfl
@[simp] theorem State.raiseKeys_engine (s : State) (p : Port) (r : KeysReason) : (s.raiseKeys p r).engine = s.engine := rfl
@[simp] theorem State.raiseKeys_monitor (s : State) (p : Port) (r : KeysReason) : (s.raiseKeys p r).monitor = s.monitor := rfl
@[simp] theorem State.raiseKeys_settings (s : State) (p : Port) (r : KeysReason) : (s.raiseKeys p r).settings = s.settings := rfl
@[simp] theorem State.raiseKeys_portA (s : State) (p : Port) (r : KeysReason) : (s.raiseKeys p r).portA = s.portA := rfl
@[simp] theorem State.raiseKeys_lastB (s : State) (p : Port) (r : KeysReason) : (s.raiseKeys p r).lastB = s.lastB := rfl
@[simp] theorem State.raiseKeys_addrHigh (s : State) (p : Port) (r : KeysReason) : (s.raiseKeys p r).addrHigh = s.addrHigh := rfl
@[simp] theorem State.raiseKeys_power (s : State) (p : Port) (r : KeysReason) : (s.raiseKeys p r).power = s.power := rfl
@[simp] theorem State.raiseKeys_startupTimer (s : State) (p : Port) (r : KeysReason) : (s.raiseKeys p r).startupTimer = s.startupTimer := rfl
@[simp] theorem State.raiseKeys_startups (s : State) (p : Port) (r : KeysReason) : (s.raiseKeys p r).startups = s.startups := rfl
@[simp] theorem State.raiseKeys_pending (s : State) (p : Port) (r : KeysReason) : (s.raiseKeys p r).pending = s.pending := rfl
@[simp] theorem State.attach_slots (s : State) (p : Port) : (s.attach p).slots = s.slots := rfl
@[simp] theorem State.attach_modem (s : State) (p : Port) : (s.attach p).modem = s.modem := rfl
@[simp] theorem State.attach_sup (s : State) (p : Port) : (s.attach p).sup = s.sup := rfl
@[simp] theorem State.attach_parser (s : State) (p : Port) : (s.attach p).parser = s.parser := rfl
@[simp] theorem State.attach_sched (s : State) (p : Port) : (s.attach p).sched = s.sched := rfl
@[simp] theorem State.attach_arb (s : State) (p : Port) : (s.attach p).arb = s.arb := rfl
@[simp] theorem State.attach_engine (s : State) (p : Port) : (s.attach p).engine = s.engine := rfl
@[simp] theorem State.attach_monitor (s : State) (p : Port) : (s.attach p).monitor = s.monitor := rfl
@[simp] theorem State.attach_events (s : State) (p : Port) : (s.attach p).events = s.events := rfl
@[simp] theorem State.attach_settings (s : State) (p : Port) : (s.attach p).settings = s.settings := rfl
@[simp] theorem State.attach_portA (s : State) (p : Port) : (s.attach p).portA = s.portA := rfl
@[simp] theorem State.attach_lastB (s : State) (p : Port) : (s.attach p).lastB = s.lastB := rfl
@[simp] theorem State.attach_addrHigh (s : State) (p : Port) : (s.attach p).addrHigh = s.addrHigh := rfl
@[simp] theorem State.attach_power (s : State) (p : Port) : (s.attach p).power = s.power := rfl
@[simp] theorem State.attach_startupTimer (s : State) (p : Port) : (s.attach p).startupTimer = s.startupTimer := rfl
@[simp] theorem State.attach_startups (s : State) (p : Port) : (s.attach p).startups = s.startups := rfl
@[simp] theorem State.attach_pending (s : State) (p : Port) : (s.attach p).pending = s.pending := rfl
@[simp] theorem State.setUnit_slots (s : State) (p : Port) (u : EventUnit) : (s.setUnit p u).slots = s.slots := rfl
@[simp] theorem State.setUnit_modem (s : State) (p : Port) (u : EventUnit) : (s.setUnit p u).modem = s.modem := rfl
@[simp] theorem State.setUnit_sup (s : State) (p : Port) (u : EventUnit) : (s.setUnit p u).sup = s.sup := rfl
@[simp] theorem State.setUnit_parser (s : State) (p : Port) (u : EventUnit) : (s.setUnit p u).parser = s.parser := rfl
@[simp] theorem State.setUnit_sched (s : State) (p : Port) (u : EventUnit) : (s.setUnit p u).sched = s.sched := rfl
@[simp] theorem State.setUnit_kbd (s : State) (p : Port) (u : EventUnit) : (s.setUnit p u).kbd = s.kbd := rfl
@[simp] theorem State.setUnit_arb (s : State) (p : Port) (u : EventUnit) : (s.setUnit p u).arb = s.arb := rfl
@[simp] theorem State.setUnit_engine (s : State) (p : Port) (u : EventUnit) : (s.setUnit p u).engine = s.engine := rfl
@[simp] theorem State.setUnit_monitor (s : State) (p : Port) (u : EventUnit) : (s.setUnit p u).monitor = s.monitor := rfl
@[simp] theorem State.setUnit_settings (s : State) (p : Port) (u : EventUnit) : (s.setUnit p u).settings = s.settings := rfl
@[simp] theorem State.setUnit_portA (s : State) (p : Port) (u : EventUnit) : (s.setUnit p u).portA = s.portA := rfl
@[simp] theorem State.setUnit_lastB (s : State) (p : Port) (u : EventUnit) : (s.setUnit p u).lastB = s.lastB := rfl
@[simp] theorem State.setUnit_addrHigh (s : State) (p : Port) (u : EventUnit) : (s.setUnit p u).addrHigh = s.addrHigh := rfl
@[simp] theorem State.setUnit_power (s : State) (p : Port) (u : EventUnit) : (s.setUnit p u).power = s.power := rfl
@[simp] theorem State.setUnit_startupTimer (s : State) (p : Port) (u : EventUnit) : (s.setUnit p u).startupTimer = s.startupTimer := rfl
@[simp] theorem State.setUnit_startups (s : State) (p : Port) (u : EventUnit) : (s.setUnit p u).startups = s.startups := rfl
@[simp] theorem State.setUnit_pending (s : State) (p : Port) (u : EventUnit) : (s.setUnit p u).pending = s.pending := rfl
@[simp] theorem State.setSlot_modem (s : State) (i : SlotId) (x : Slot) : (s.setSlot i x).modem = s.modem := rfl
@[simp] theorem State.setSlot_sup (s : State) (i : SlotId) (x : Slot) : (s.setSlot i x).sup = s.sup := rfl
@[simp] theorem State.setSlot_parser (s : State) (i : SlotId) (x : Slot) : (s.setSlot i x).parser = s.parser := rfl
@[simp] theorem State.setSlot_sched (s : State) (i : SlotId) (x : Slot) : (s.setSlot i x).sched = s.sched := rfl
@[simp] theorem State.setSlot_kbd (s : State) (i : SlotId) (x : Slot) : (s.setSlot i x).kbd = s.kbd := rfl
@[simp] theorem State.setSlot_arb (s : State) (i : SlotId) (x : Slot) : (s.setSlot i x).arb = s.arb := rfl
@[simp] theorem State.setSlot_engine (s : State) (i : SlotId) (x : Slot) : (s.setSlot i x).engine = s.engine := rfl
@[simp] theorem State.setSlot_monitor (s : State) (i : SlotId) (x : Slot) : (s.setSlot i x).monitor = s.monitor := rfl
@[simp] theorem State.setSlot_events (s : State) (i : SlotId) (x : Slot) : (s.setSlot i x).events = s.events := rfl
@[simp] theorem State.setSlot_settings (s : State) (i : SlotId) (x : Slot) : (s.setSlot i x).settings = s.settings := rfl
@[simp] theorem State.setSlot_portA (s : State) (i : SlotId) (x : Slot) : (s.setSlot i x).portA = s.portA := rfl
@[simp] theorem State.setSlot_lastB (s : State) (i : SlotId) (x : Slot) : (s.setSlot i x).lastB = s.lastB := rfl
@[simp] theorem State.setSlot_addrHigh (s : State) (i : SlotId) (x : Slot) : (s.setSlot i x).addrHigh = s.addrHigh := rfl
@[simp] theorem State.setSlot_power (s : State) (i : SlotId) (x : Slot) : (s.setSlot i x).power = s.power := rfl
@[simp] theorem State.setSlot_startupTimer (s : State) (i : SlotId) (x : Slot) : (s.setSlot i x).startupTimer = s.startupTimer := rfl
@[simp] theorem State.setSlot_startups (s : State) (i : SlotId) (x : Slot) : (s.setSlot i x).startups = s.startups := rfl
@[simp] theorem State.setSlot_pending (s : State) (i : SlotId) (x : Slot) : (s.setSlot i x).pending = s.pending := rfl
@[simp] theorem State.mapSlots_modem (s : State) (f : SlotId → Slot → Slot) : (s.mapSlots f).modem = s.modem := by simp only [State.mapSlots]
@[simp] theorem State.mapSlots_sup (s : State) (f : SlotId → Slot → Slot) : (s.mapSlots f).sup = s.sup := by simp only [State.mapSlots]
@[simp] theorem State.mapSlots_parser (s : State) (f : SlotId → Slot → Slot) : (s.mapSlots f).parser = s.parser := by simp only [State.mapSlots]
@[simp] theorem State.mapSlots_sched (s : State) (f : SlotId → Slot → Slot) : (s.mapSlots f).sched = s.sched := by simp only [State.mapSlots]
@[simp] theorem State.mapSlots_kbd (s : State) (f : SlotId → Slot → Slot) : (s.mapSlots f).kbd = s.kbd := by simp only [State.mapSlots]
@[simp] theorem State.mapSlots_arb (s : State) (f : SlotId → Slot → Slot) : (s.mapSlots f).arb = s.arb := by simp only [State.mapSlots]
@[simp] theorem State.mapSlots_engine (s : State) (f : SlotId → Slot → Slot) : (s.mapSlots f).engine = s.engine := by simp only [State.mapSlots]
@[simp] theorem State.mapSlots_monitor (s : State) (f : SlotId → Slot → Slot) : (s.mapSlots f).monitor = s.monitor := by simp only [State.mapSlots]
@[simp] theorem State.mapSlots_events (s : State) (f : SlotId → Slot → Slot) : (s.mapSlots f).events = s.events := by simp only [State.mapSlots]
@[simp] theorem State.mapSlots_settings (s : State) (f : SlotId → Slot → Slot) : (s.mapSlots f).settings = s.settings := by simp only [State.mapSlots]
@[simp] theorem State.mapSlots_portA (s : State) (f : SlotId → Slot → Slot) : (s.mapSlots f).portA = s.portA := by simp only [State.mapSlots]
@[simp] theorem State.mapSlots_lastB (s : State) (f : SlotId → Slot → Slot) : (s.mapSlots f).lastB = s.lastB := by simp only [State.mapSlots]
@[simp] theorem State.mapSlots_addrHigh (s : State) (f : SlotId → Slot → Slot) : (s.mapSlots f).addrHigh = s.addrHigh := by simp only [State.mapSlots]
@[simp] theorem State.mapSlots_power (s : State) (f : SlotId → Slot → Slot) : (s.mapSlots f).power = s.power := by simp only [State.mapSlots]
@[simp] theorem State.mapSlots_startupTimer (s : State) (f : SlotId → Slot → Slot) : (s.mapSlots f).startupTimer = s.startupTimer := by simp only [State.mapSlots]
@[simp] theorem State.mapSlots_startups (s : State) (f : SlotId → Slot → Slot) : (s.mapSlots f).startups = s.startups := by simp only [State.mapSlots]
@[simp] theorem State.mapSlots_pending (s : State) (f : SlotId → Slot → Slot) : (s.mapSlots f).pending = s.pending := by simp only [State.mapSlots]
@[simp] theorem State.mapChain_modem (s : State) (h : SlotId) (f : Slot → Slot) : (s.mapChain h f).modem = s.modem := by simp [State.mapChain]
@[simp] theorem State.mapChain_sup (s : State) (h : SlotId) (f : Slot → Slot) : (s.mapChain h f).sup = s.sup := by simp [State.mapChain]
@[simp] theorem State.mapChain_parser (s : State) (h : SlotId) (f : Slot → Slot) : (s.mapChain h f).parser = s.parser := by simp [State.mapChain]
@[simp] theorem State.mapChain_sched (s : State) (h : SlotId) (f : Slot → Slot) : (s.mapChain h f).sched = s.sched := by simp [State.mapChain]
@[simp] theorem State.mapChain_kbd (s : State) (h : SlotId) (f : Slot → Slot) : (s.mapChain h f).kbd = s.kbd := by simp [State.mapChain]
@[simp] theorem State.mapChain_arb (s : State) (h : SlotId) (f : Slot → Slot) : (s.mapChain h f).arb = s.arb := by simp [State.mapChain]
@[simp] theorem State.mapChain_engine (s : State) (h : SlotId) (f : Slot → Slot) : (s.mapChain h f).engine = s.engine := by simp [State.mapChain]
@[simp] theorem State.mapChain_monitor (s : State) (h : SlotId) (f : Slot → Slot) : (s.mapChain h f).monitor = s.monitor := by simp [State.mapChain]
@[simp] theorem State.mapChain_events (s : State) (h : SlotId) (f : Slot → Slot) : (s.mapChain h f).events = s.events := by simp [State.mapChain]
@[simp] theorem State.mapChain_settings (s : State) (h : SlotId) (f : Slot → Slot) : (s.mapChain h f).settings = s.settings := by simp [State.mapChain]
@[simp] theorem State.mapChain_portA (s : State) (h : SlotId) (f : Slot → Slot) : (s.mapChain h f).portA = s.portA := by simp [State.mapChain]
@[simp] theorem State.mapChain_lastB (s : State) (h : SlotId) (f : Slot → Slot) : (s.mapChain h f).lastB = s.lastB := by simp [State.mapChain]
@[simp] theorem State.mapChain_addrHigh (s : State) (h : SlotId) (f : Slot → Slot) : (s.mapChain h f).addrHigh = s.addrHigh := by simp [State.mapChain]
@[simp] theorem State.mapChain_power (s : State) (h : SlotId) (f : Slot → Slot) : (s.mapChain h f).power = s.power := by simp [State.mapChain]
@[simp] theorem State.mapChain_startupTimer (s : State) (h : SlotId) (f : Slot → Slot) : (s.mapChain h f).startupTimer = s.startupTimer := by simp [State.mapChain]
@[simp] theorem State.mapChain_startups (s : State) (h : SlotId) (f : Slot → Slot) : (s.mapChain h f).startups = s.startups := by simp [State.mapChain]
@[simp] theorem State.mapChain_pending (s : State) (h : SlotId) (f : Slot → Slot) : (s.mapChain h f).pending = s.pending := by simp [State.mapChain]
@[simp] theorem State.count_slots (s : State) (f : Counters → Counters) : (s.count f).slots = s.slots := rfl
@[simp] theorem State.count_modem (s : State) (f : Counters → Counters) : (s.count f).modem = s.modem := rfl
@[simp] theorem State.count_sup (s : State) (f : Counters → Counters) : (s.count f).sup = s.sup := rfl
@[simp] theorem State.count_sched (s : State) (f : Counters → Counters) : (s.count f).sched = s.sched := rfl
@[simp] theorem State.count_kbd (s : State) (f : Counters → Counters) : (s.count f).kbd = s.kbd := rfl
@[simp] theorem State.count_arb (s : State) (f : Counters → Counters) : (s.count f).arb = s.arb := rfl
@[simp] theorem State.count_engine (s : State) (f : Counters → Counters) : (s.count f).engine = s.engine := rfl
@[simp] theorem State.count_monitor (s : State) (f : Counters → Counters) : (s.count f).monitor = s.monitor := rfl
@[simp] theorem State.count_events (s : State) (f : Counters → Counters) : (s.count f).events = s.events := rfl
@[simp] theorem State.count_settings (s : State) (f : Counters → Counters) : (s.count f).settings = s.settings := rfl
@[simp] theorem State.count_portA (s : State) (f : Counters → Counters) : (s.count f).portA = s.portA := rfl
@[simp] theorem State.count_lastB (s : State) (f : Counters → Counters) : (s.count f).lastB = s.lastB := rfl
@[simp] theorem State.count_addrHigh (s : State) (f : Counters → Counters) : (s.count f).addrHigh = s.addrHigh := rfl
@[simp] theorem State.count_power (s : State) (f : Counters → Counters) : (s.count f).power = s.power := rfl
@[simp] theorem State.count_startupTimer (s : State) (f : Counters → Counters) : (s.count f).startupTimer = s.startupTimer := rfl
@[simp] theorem State.count_startups (s : State) (f : Counters → Counters) : (s.count f).startups = s.startups := rfl
@[simp] theorem State.count_pending (s : State) (f : Counters → Counters) : (s.count f).pending = s.pending := rfl
@[simp] theorem State.enterSendQueue_slots (s : State) (h : SlotId) : (s.enterSendQueue h).slots = s.slots := rfl
@[simp] theorem State.enterSendQueue_modem (s : State) (h : SlotId) : (s.enterSendQueue h).modem = s.modem := rfl
@[simp] theorem State.enterSendQueue_sup (s : State) (h : SlotId) : (s.enterSendQueue h).sup = s.sup := rfl
@[simp] theorem State.enterSendQueue_parser (s : State) (h : SlotId) : (s.enterSendQueue h).parser = s.parser := rfl
@[simp] theorem State.enterSendQueue_kbd (s : State) (h : SlotId) : (s.enterSendQueue h).kbd = s.kbd := rfl
@[simp] theorem State.enterSendQueue_arb (s : State) (h : SlotId) : (s.enterSendQueue h).arb = s.arb := rfl
@[simp] theorem State.enterSendQueue_engine (s : State) (h : SlotId) : (s.enterSendQueue h).engine = s.engine := rfl
@[simp] theorem State.enterSendQueue_monitor (s : State) (h : SlotId) : (s.enterSendQueue h).monitor = s.monitor := rfl
@[simp] theorem State.enterSendQueue_events (s : State) (h : SlotId) : (s.enterSendQueue h).events = s.events := rfl
@[simp] theorem State.enterSendQueue_settings (s : State) (h : SlotId) : (s.enterSendQueue h).settings = s.settings := rfl
@[simp] theorem State.enterSendQueue_portA (s : State) (h : SlotId) : (s.enterSendQueue h).portA = s.portA := rfl
@[simp] theorem State.enterSendQueue_lastB (s : State) (h : SlotId) : (s.enterSendQueue h).lastB = s.lastB := rfl
@[simp] theorem State.enterSendQueue_addrHigh (s : State) (h : SlotId) : (s.enterSendQueue h).addrHigh = s.addrHigh := rfl
@[simp] theorem State.enterSendQueue_power (s : State) (h : SlotId) : (s.enterSendQueue h).power = s.power := rfl
@[simp] theorem State.enterSendQueue_startupTimer (s : State) (h : SlotId) : (s.enterSendQueue h).startupTimer = s.startupTimer := rfl
@[simp] theorem State.enterSendQueue_startups (s : State) (h : SlotId) : (s.enterSendQueue h).startups = s.startups := rfl
@[simp] theorem State.enterSendQueue_pending (s : State) (h : SlotId) : (s.enterSendQueue h).pending = s.pending := rfl
@[simp] theorem State.setAutoJob_modem (s : State) (i : SlotId) (a : AutoJob) : (s.setAutoJob i a).modem = s.modem := rfl
@[simp] theorem State.setAutoJob_sup (s : State) (i : SlotId) (a : AutoJob) : (s.setAutoJob i a).sup = s.sup := rfl
@[simp] theorem State.setAutoJob_parser (s : State) (i : SlotId) (a : AutoJob) : (s.setAutoJob i a).parser = s.parser := rfl
@[simp] theorem State.setAutoJob_sched (s : State) (i : SlotId) (a : AutoJob) : (s.setAutoJob i a).sched = s.sched := rfl
@[simp] theorem State.setAutoJob_kbd (s : State) (i : SlotId) (a : AutoJob) : (s.setAutoJob i a).kbd = s.kbd := rfl
@[simp] theorem State.setAutoJob_arb (s : State) (i : SlotId) (a : AutoJob) : (s.setAutoJob i a).arb = s.arb := rfl
@[simp] theorem State.setAutoJob_engine (s : State) (i : SlotId) (a : AutoJob) : (s.setAutoJob i a).engine = s.engine := rfl
@[simp] theorem State.setAutoJob_monitor (s : State) (i : SlotId) (a : AutoJob) : (s.setAutoJob i a).monitor = s.monitor := rfl
@[simp] theorem State.setAutoJob_events (s : State) (i : SlotId) (a : AutoJob) : (s.setAutoJob i a).events = s.events := rfl
@[simp] theorem State.setAutoJob_settings (s : State) (i : SlotId) (a : AutoJob) : (s.setAutoJob i a).settings = s.settings := rfl
@[simp] theorem State.setAutoJob_portA (s : State) (i : SlotId) (a : AutoJob) : (s.setAutoJob i a).portA = s.portA := rfl
@[simp] theorem State.setAutoJob_lastB (s : State) (i : SlotId) (a : AutoJob) : (s.setAutoJob i a).lastB = s.lastB := rfl
@[simp] theorem State.setAutoJob_addrHigh (s : State) (i : SlotId) (a : AutoJob) : (s.setAutoJob i a).addrHigh = s.addrHigh := rfl
@[simp] theorem State.setAutoJob_power (s : State) (i : SlotId) (a : AutoJob) : (s.setAutoJob i a).power = s.power := rfl
@[simp] theorem State.setAutoJob_startupTimer (s : State) (i : SlotId) (a : AutoJob) : (s.setAutoJob i a).startupTimer = s.startupTimer := rfl
@[simp] theorem State.setAutoJob_startups (s : State) (i : SlotId) (a : AutoJob) : (s.setAutoJob i a).startups = s.startups := rfl
@[simp] theorem State.setAutoJob_pending (s : State) (i : SlotId) (a : AutoJob) : (s.setAutoJob i a).pending = s.pending := rfl
@[simp] theorem State.respond_slots (s : State) (p : Port) (r : Response) : (s.respond p r).slots = s.slots := by cases p <;> rfl
@[simp] theorem State.respond_modem (s : State) (p : Port) (r : Response) : (s.respond p r).modem = s.modem := by cases p <;> rfl
@[simp] theorem State.respond_sup (s : State) (p : Port) (r : Response) : (s.respond p r).sup = s.sup := by cases p <;> rfl
@[simp] theorem State.respond_parser (s : State) (p : Port) (r : Response) : (s.respond p r).parser = s.parser := by cases p <;> rfl
@[simp] theorem State.respond_sched (s : State) (p : Port) (r : Response) : (s.respond p r).sched = s.sched := by cases p <;> rfl
@[simp] theorem State.respond_kbd (s : State) (p : Port) (r : Response) : (s.respond p r).kbd = s.kbd := by cases p <;> rfl
@[simp] theorem State.respond_arb (s : State) (p : Port) (r : Response) : (s.respond p r).arb = s.arb := by cases p <;> rfl
@[simp] theorem State.respond_engine (s : State) (p : Port) (r : Response) : (s.respond p r).engine = s.engine := by cases p <;> rfl
@[simp] theorem State.respond_monitor (s : State) (p : Port) (r : Response) : (s.respond p r).monitor = s.monitor := by cases p <;> rfl
@[simp] theorem State.respond_events (s : State) (p : Port) (r : Response) : (s.respond p r).events = s.events := by cases p <;> rfl
@[simp] theorem State.respond_settings (s : State) (p : Port) (r : Response) : (s.respond p r).settings = s.settings := by cases p <;> rfl
@[simp] theorem State.respond_power (s : State) (p : Port) (r : Response) : (s.respond p r).power = s.power := by cases p <;> rfl
@[simp] theorem State.respond_startupTimer (s : State) (p : Port) (r : Response) : (s.respond p r).startupTimer = s.startupTimer := by cases p <;> rfl
@[simp] theorem State.respond_startups (s : State) (p : Port) (r : Response) : (s.respond p r).startups = s.startups := by cases p <;> rfl
@[simp] theorem State.respond_pending (s : State) (p : Port) (r : Response) : (s.respond p r).pending = s.pending := by cases p <;> rfl
@[simp] theorem State.beep_slots (s : State) : (s.beep).slots = s.slots := by unfold State.beep; split <;> rfl
@[simp] theorem State.beep_modem (s : State) : (s.beep).modem = s.modem := by unfold State.beep; split <;> rfl
@[simp] theorem State.beep_sup (s : State) : (s.beep).sup = s.sup := by unfold State.beep; split <;> rfl
@[simp] theorem State.beep_parser (s : State) : (s.beep).parser = s.parser := by unfold State.beep; split <;> rfl
@[simp] theorem State.beep_sched (s : State) : (s.beep).sched = s.sched := by unfold State.beep; split <;> rfl
@[simp] theorem State.beep_kbd (s : State) : (s.beep).kbd = s.kbd := by unfold State.beep; split <;> rfl
@[simp] theorem State.beep_arb (s : State) : (s.beep).arb = s.arb := by unfold State.beep; split <;> rfl
@[simp] theorem State.beep_engine (s : State) : (s.beep).engine = s.engine := by unfold State.beep; split <;> rfl
@[simp] theorem State.beep_events (s : State) : (s.beep).events = s.events := by unfold State.beep; split <;> rfl
@[simp] theorem State.beep_settings (s : State) : (s.beep).settings = s.settings := by unfold State.beep; split <;> rfl
@[simp] theorem State.beep_portA (s : State) : (s.beep).portA = s.portA := by unfold State.beep; split <;> rfl
@[simp] theorem State.beep_lastB (s : State) : (s.beep).lastB = s.lastB := by unfold State.beep; split <;> rfl
@[simp] theorem State.beep_addrHigh (s : State) : (s.beep).addrHigh = s.addrHigh := by unfold State.beep; split <;> rfl
@[simp] theorem State.beep_power (s : State) : (s.beep).power = s.power := by unfold State.beep; split <;> rfl
@[simp] theorem State.beep_startupTimer (s : State) : (s.beep).startupTimer = s.startupTimer := by unfold State.beep; split <;> rfl
@[simp] theorem State.beep_startups (s : State) : (s.beep).startups = s.startups := by unfold State.beep; split <;> rfl
@[simp] theorem State.beep_pending (s : State) : (s.beep).pending = s.pending := by unfold State.beep; split <;> rfl
@[simp] theorem State.alertOwner_slots (s : State) (p : Option Port) (c : Alert) : (s.alertOwner p c).slots = s.slots := by cases p <;> rfl
@[simp] theorem State.alertOwner_modem (s : State) (p : Option Port) (c : Alert) : (s.alertOwner p c).modem = s.modem := by cases p <;> rfl
@[simp] theorem State.alertOwner_sup (s : State) (p : Option Port) (c : Alert) : (s.alertOwner p c).sup = s.sup := by cases p <;> rfl
@[simp] theorem State.alertOwner_parser (s : State) (p : Option Port) (c : Alert) : (s.alertOwner p c).parser = s.parser := by cases p <;> rfl
@[simp] theorem State.alertOwner_sched (s : State) (p : Option Port) (c : Alert) : (s.alertOwner p c).sched = s.sched := by cases p <;> rfl
@[simp] theorem State.alertOwner_kbd (s : State) (p : Option Port) (c : Alert) : (s.alertOwner p c).kbd = s.kbd := by cases p <;> rfl
@[simp] theorem State.alertOwner_arb (s : State) (p : Option Port) (c : Alert) : (s.alertOwner p c).arb = s.arb := by cases p <;> rfl
@[simp] theorem State.alertOwner_engine (s : State) (p : Option Port) (c : Alert) : (s.alertOwner p c).engine = s.engine := by cases p <;> rfl
@[simp] theorem State.alertOwner_monitor (s : State) (p : Option Port) (c : Alert) : (s.alertOwner p c).monitor = s.monitor := by cases p <;> rfl
@[simp] theorem State.alertOwner_settings (s : State) (p : Option Port) (c : Alert) : (s.alertOwner p c).settings = s.settings := by cases p <;> rfl
@[simp] theorem State.alertOwner_portA (s : State) (p : Option Port) (c : Alert) : (s.alertOwner p c).portA = s.portA := by cases p <;> rfl
@[simp] theorem State.alertOwner_lastB (s : State) (p : Option Port) (c : Alert) : (s.alertOwner p c).lastB = s.lastB := by cases p <;> rfl
@[simp] theorem State.alertOwner_addrHigh (s : State) (p : Option Port) (c : Alert) : (s.alertOwner p c).addrHigh = s.addrHigh := by cases p <;> rfl
@[simp] theorem State.alertOwner_power (s : State) (p : Option Port) (c : Alert) : (s.alertOwner p c).power = s.power := by cases p <;> rfl
@[simp] theorem State.alertOwner_startupTimer (s : State) (p : Option Port) (c : Alert) : (s.alertOwner p c).startupTimer = s.startupTimer := by cases p <;> rfl
@[simp] theorem State.alertOwner_startups (s : State) (p : Option Port) (c : Alert) : (s.alertOwner p c).startups = s.startups := by cases p <;> rfl
@[simp] theorem State.alertOwner_pending (s : State) (p : Option Port) (c : Alert) : (s.alertOwner p c).pending = s.pending := by cases p <;> rfl
@[simp] theorem State.raiseEnded_slots (s : State) (h : SlotId) (o : EndOutcome) : (s.raiseEnded h o).slots = s.slots := by unfold State.raiseEnded; split <;> rfl
@[simp] theorem State.raiseEnded_modem (s : State) (h : SlotId) (o : EndOutcome) : (s.raiseEnded h o).modem = s.modem := by unfold State.raiseEnded; split <;> rfl
@[simp] theorem State.raiseEnded_sup (s : State) (h : SlotId) (o : EndOutcome) : (s.raiseEnded h o).sup = s.sup := by unfold State.raiseEnded; split <;> rfl
@[simp] theorem State.raiseEnded_parser (s : State) (h : SlotId) (o : EndOutcome) : (s.raiseEnded h o).parser = s.parser := by unfold State.raiseEnded; split <;> rfl
@[simp] theorem State.raiseEnded_sched (s : State) (h : SlotId) (o : EndOutcome) : (s.raiseEnded h o).sched = s.sched := by unfold State.raiseEnded; split <;> rfl
@[simp] theorem State.raiseEnded_kbd (s : State) (h : SlotId) (o : EndOutcome) : (s.raiseEnded h o).kbd = s.kbd := by unfold State.raiseEnded; split <;> rfl
@[simp] theorem State.raiseEnded_arb (s : State) (h : SlotId) (o : EndOutcome) : (s.raiseEnded h o).arb = s.arb := by unfold State.raiseEnded; split <;> rfl
@[simp] theorem State.raiseEnded_engine (s : State) (h : SlotId) (o : EndOutcome) : (s.raiseEnded h o).engine = s.engine := by unfold State.raiseEnded; split <;> rfl
@[simp] theorem State.raiseEnded_monitor (s : State) (h : SlotId) (o : EndOutcome) : (s.raiseEnded h o).monitor = s.monitor := by unfold State.raiseEnded; split <;> rfl
@[simp] theorem State.raiseEnded_settings (s : State) (h : SlotId) (o : EndOutcome) : (s.raiseEnded h o).settings = s.settings := by unfold State.raiseEnded; split <;> rfl
@[simp] theorem State.raiseEnded_portA (s : State) (h : SlotId) (o : EndOutcome) : (s.raiseEnded h o).portA = s.portA := by unfold State.raiseEnded; split <;> rfl
@[simp] theorem State.raiseEnded_lastB (s : State) (h : SlotId) (o : EndOutcome) : (s.raiseEnded h o).lastB = s.lastB := by unfold State.raiseEnded; split <;> rfl
@[simp] theorem State.raiseEnded_addrHigh (s : State) (h : SlotId) (o : EndOutcome) : (s.raiseEnded h o).addrHigh = s.addrHigh := by unfold State.raiseEnded; split <;> rfl
@[simp] theorem State.raiseEnded_power (s : State) (h : SlotId) (o : EndOutcome) : (s.raiseEnded h o).power = s.power := by unfold State.raiseEnded; split <;> rfl
@[simp] theorem State.raiseEnded_startupTimer (s : State) (h : SlotId) (o : EndOutcome) : (s.raiseEnded h o).startupTimer = s.startupTimer := by unfold State.raiseEnded; split <;> rfl
@[simp] theorem State.raiseEnded_startups (s : State) (h : SlotId) (o : EndOutcome) : (s.raiseEnded h o).startups = s.startups := by unfold State.raiseEnded; split <;> rfl
@[simp] theorem State.raiseEnded_pending (s : State) (h : SlotId) (o : EndOutcome) : (s.raiseEnded h o).pending = s.pending := by unfold State.raiseEnded; split <;> rfl
@[simp] theorem State.enterPrintQueue_slots (s : State) (k : JobKind) (i : SlotId) : (s.enterPrintQueue k i).slots = s.slots := by unfold State.enterPrintQueue; split <;> rfl
@[simp] theorem State.enterPrintQueue_modem (s : State) (k : JobKind) (i : SlotId) : (s.enterPrintQueue k i).modem = s.modem := by unfold State.enterPrintQueue; split <;> rfl
@[simp] theorem State.enterPrintQueue_sup (s : State) (k : JobKind) (i : SlotId) : (s.enterPrintQueue k i).sup = s.sup := by unfold State.enterPrintQueue; split <;> rfl
@[simp] theorem State.enterPrintQueue_parser (s : State) (k : JobKind) (i : SlotId) : (s.enterPrintQueue k i).parser = s.parser := by unfold State.enterPrintQueue; split <;> rfl
@[simp] theorem State.enterPrintQueue_sched (s : State) (k : JobKind) (i : SlotId) : (s.enterPrintQueue k i).sched = s.sched := by unfold State.enterPrintQueue; split <;> rfl
@[simp] theorem State.enterPrintQueue_kbd (s : State) (k : JobKind) (i : SlotId) : (s.enterPrintQueue k i).kbd = s.kbd := by unfold State.enterPrintQueue; split <;> rfl
@[simp] theorem State.enterPrintQueue_engine (s : State) (k : JobKind) (i : SlotId) : (s.enterPrintQueue k i).engine = s.engine := by unfold State.enterPrintQueue; split <;> rfl
@[simp] theorem State.enterPrintQueue_monitor (s : State) (k : JobKind) (i : SlotId) : (s.enterPrintQueue k i).monitor = s.monitor := by unfold State.enterPrintQueue; split <;> rfl
@[simp] theorem State.enterPrintQueue_events (s : State) (k : JobKind) (i : SlotId) : (s.enterPrintQueue k i).events = s.events := by unfold State.enterPrintQueue; split <;> rfl
@[simp] theorem State.enterPrintQueue_settings (s : State) (k : JobKind) (i : SlotId) : (s.enterPrintQueue k i).settings = s.settings := by unfold State.enterPrintQueue; split <;> rfl
@[simp] theorem State.enterPrintQueue_portA (s : State) (k : JobKind) (i : SlotId) : (s.enterPrintQueue k i).portA = s.portA := by unfold State.enterPrintQueue; split <;> rfl
@[simp] theorem State.enterPrintQueue_lastB (s : State) (k : JobKind) (i : SlotId) : (s.enterPrintQueue k i).lastB = s.lastB := by unfold State.enterPrintQueue; split <;> rfl
@[simp] theorem State.enterPrintQueue_addrHigh (s : State) (k : JobKind) (i : SlotId) : (s.enterPrintQueue k i).addrHigh = s.addrHigh := by unfold State.enterPrintQueue; split <;> rfl
@[simp] theorem State.enterPrintQueue_power (s : State) (k : JobKind) (i : SlotId) : (s.enterPrintQueue k i).power = s.power := by unfold State.enterPrintQueue; split <;> rfl
@[simp] theorem State.enterPrintQueue_startupTimer (s : State) (k : JobKind) (i : SlotId) : (s.enterPrintQueue k i).startupTimer = s.startupTimer := by unfold State.enterPrintQueue; split <;> rfl
@[simp] theorem State.enterPrintQueue_startups (s : State) (k : JobKind) (i : SlotId) : (s.enterPrintQueue k i).startups = s.startups := by unfold State.enterPrintQueue; split <;> rfl
@[simp] theorem State.enterPrintQueue_pending (s : State) (k : JobKind) (i : SlotId) : (s.enterPrintQueue k i).pending = s.pending := by unfold State.enterPrintQueue; split <;> rfl

/-! ## Shared operations: every field they leave alone -/

@[simp] theorem State.chainRequest_modem (s : State) (h : SlotId) (k : Kind) (e : List SlotState) (n : SlotState)
    (o : Option EndOutcome) : (s.chainRequest h k e n o).modem = s.modem := by
  unfold State.chainRequest; split
  · cases o <;> simp
  · rfl
@[simp] theorem State.chainRequest_sup (s : State) (h : SlotId) (k : Kind) (e : List SlotState) (n : SlotState)
    (o : Option EndOutcome) : (s.chainRequest h k e n o).sup = s.sup := by
  unfold State.chainRequest; split
  · cases o <;> simp
  · rfl
@[simp] theorem State.chainRequest_parser (s : State) (h : SlotId) (k : Kind) (e : List SlotState) (n : SlotState)
    (o : Option EndOutcome) : (s.chainRequest h k e n o).parser = s.parser := by
  unfold State.chainRequest; split
  · cases o <;> simp
  · rfl
@[simp] theorem State.chainRequest_sched (s : State) (h : SlotId) (k : Kind) (e : List SlotState) (n : SlotState)
    (o : Option EndOutcome) : (s.chainRequest h k e n o).sched = s.sched := by
  unfold State.chainRequest; split
  · cases o <;> simp
  · rfl
@[simp] theorem State.chainRequest_kbd (s : State) (h : SlotId) (k : Kind) (e : List SlotState) (n : SlotState)
    (o : Option EndOutcome) : (s.chainRequest h k e n o).kbd = s.kbd := by
  unfold State.chainRequest; split
  · cases o <;> simp
  · rfl
@[simp] theorem State.chainRequest_arb (s : State) (h : SlotId) (k : Kind) (e : List SlotState) (n : SlotState)
    (o : Option EndOutcome) : (s.chainRequest h k e n o).arb = s.arb := by
  unfold State.chainRequest; split
  · cases o <;> simp
  · rfl
@[simp] theorem State.chainRequest_engine (s : State) (h : SlotId) (k : Kind) (e : List SlotState) (n : SlotState)
    (o : Option EndOutcome) : (s.chainRequest h k e n o).engine = s.engine := by
  unfold State.chainRequest; split
  · cases o <;> simp
  · rfl
@[simp] theorem State.chainRequest_monitor (s : State) (h : SlotId) (k : Kind) (e : List SlotState) (n : SlotState)
    (o : Option EndOutcome) : (s.chainRequest h k e n o).monitor = s.monitor := by
  unfold State.chainRequest; split
  · cases o <;> simp
  · rfl
@[simp] theorem State.chainRequest_settings (s : State) (h : SlotId) (k : Kind) (e : List SlotState) (n : SlotState)
    (o : Option EndOutcome) : (s.chainRequest h k e n o).settings = s.settings := by
  unfold State.chainRequest; split
  · cases o <;> simp
  · rfl
@[simp] theorem State.chainRequest_portA (s : State) (h : SlotId) (k : Kind) (e : List SlotState) (n : SlotState)
    (o : Option EndOutcome) : (s.chainRequest h k e n o).portA = s.portA := by
  unfold State.chainRequest; split
  · cases o <;> simp
  · rfl
@[simp] theorem State.chainRequest_lastB (s : State) (h : SlotId) (k : Kind) (e : List SlotState) (n : SlotState)
    (o : Option EndOutcome) : (s.chainRequest h k e n o).lastB = s.lastB := by
  unfold State.chainRequest; split
  · cases o <;> simp
  · rfl
@[simp] theorem State.chainRequest_addrHigh (s : State) (h : SlotId) (k : Kind) (e : List SlotState) (n : SlotState)
    (o : Option EndOutcome) : (s.chainRequest h k e n o).addrHigh = s.addrHigh := by
  unfold State.chainRequest; split
  · cases o <;> simp
  · rfl
@[simp] theorem State.chainRequest_power (s : State) (h : SlotId) (k : Kind) (e : List SlotState) (n : SlotState)
    (o : Option EndOutcome) : (s.chainRequest h k e n o).power = s.power := by
  unfold State.chainRequest; split
  · cases o <;> simp
  · rfl
@[simp] theorem State.chainRequest_startupTimer (s : State) (h : SlotId) (k : Kind) (e : List SlotState) (n : SlotState)
    (o : Option EndOutcome) : (s.chainRequest h k e n o).startupTimer = s.startupTimer := by
  unfold State.chainRequest; split
  · cases o <;> simp
  · rfl
@[simp] theorem State.chainRequest_startups (s : State) (h : SlotId) (k : Kind) (e : List SlotState) (n : SlotState)
    (o : Option EndOutcome) : (s.chainRequest h k e n o).startups = s.startups := by
  unfold State.chainRequest; split
  · cases o <;> simp
  · rfl
@[simp] theorem State.chainRequest_pending (s : State) (h : SlotId) (k : Kind) (e : List SlotState) (n : SlotState)
    (o : Option EndOutcome) : (s.chainRequest h k e n o).pending = s.pending := by
  unfold State.chainRequest; split
  · cases o <;> simp
  · rfl
@[simp] theorem State.testLineMark_slots (s : State) (p : Port) : (s.testLineMark p).slots = s.slots := by
  unfold State.testLineMark; split
  · split <;> rfl
  · rfl
@[simp] theorem State.testLineMark_modem (s : State) (p : Port) : (s.testLineMark p).modem = s.modem := by
  unfold State.testLineMark; split
  · split <;> rfl
  · rfl
@[simp] theorem State.testLineMark_sup (s : State) (p : Port) : (s.testLineMark p).sup = s.sup := by
  unfold State.testLineMark; split
  · split <;> rfl
  · rfl
@[simp] theorem State.testLineMark_parser (s : State) (p : Port) : (s.testLineMark p).parser = s.parser := by
  unfold State.testLineMark; split
  · split <;> rfl
  · rfl
@[simp] theorem State.testLineMark_kbd (s : State) (p : Port) : (s.testLineMark p).kbd = s.kbd := by
  unfold State.testLineMark; split
  · split <;> rfl
  · rfl
@[simp] theorem State.testLineMark_arb (s : State) (p : Port) : (s.testLineMark p).arb = s.arb := by
  unfold State.testLineMark; split
  · split <;> rfl
  · rfl
@[simp] theorem State.testLineMark_engine (s : State) (p : Port) : (s.testLineMark p).engine = s.engine := by
  unfold State.testLineMark; split
  · split <;> rfl
  · rfl
@[simp] theorem State.testLineMark_monitor (s : State) (p : Port) : (s.testLineMark p).monitor = s.monitor := by
  unfold State.testLineMark; split
  · split <;> rfl
  · rfl
@[simp] theorem State.testLineMark_settings (s : State) (p : Port) : (s.testLineMark p).settings = s.settings := by
  unfold State.testLineMark; split
  · split <;> rfl
  · rfl
@[simp] theorem State.testLineMark_portA (s : State) (p : Port) : (s.testLineMark p).portA = s.portA := by
  unfold State.testLineMark; split
  · split <;> rfl
  · rfl
@[simp] theorem State.testLineMark_lastB (s : State) (p : Port) : (s.testLineMark p).lastB = s.lastB := by
  unfold State.testLineMark; split
  · split <;> rfl
  · rfl
@[simp] theorem State.testLineMark_addrHigh (s : State) (p : Port) : (s.testLineMark p).addrHigh = s.addrHigh := by
  unfold State.testLineMark; split
  · split <;> rfl
  · rfl
@[simp] theorem State.testLineMark_power (s : State) (p : Port) : (s.testLineMark p).power = s.power := by
  unfold State.testLineMark; split
  · split <;> rfl
  · rfl
@[simp] theorem State.testLineMark_startupTimer (s : State) (p : Port) : (s.testLineMark p).startupTimer = s.startupTimer := by
  unfold State.testLineMark; split
  · split <;> rfl
  · rfl
@[simp] theorem State.testLineMark_startups (s : State) (p : Port) : (s.testLineMark p).startups = s.startups := by
  unfold State.testLineMark; split
  · split <;> rfl
  · rfl
@[simp] theorem State.testLineMark_pending (s : State) (p : Port) : (s.testLineMark p).pending = s.pending := by
  unfold State.testLineMark; split
  · split <;> rfl
  · rfl
@[simp] theorem State.testLineMarks_slots (s : State) : (s.testLineMarks).slots = s.slots := by simp [State.testLineMarks]
@[simp] theorem State.testLineMarks_modem (s : State) : (s.testLineMarks).modem = s.modem := by simp [State.testLineMarks]
@[simp] theorem State.testLineMarks_sup (s : State) : (s.testLineMarks).sup = s.sup := by simp [State.testLineMarks]
@[simp] theorem State.testLineMarks_parser (s : State) : (s.testLineMarks).parser = s.parser := by simp [State.testLineMarks]
@[simp] theorem State.testLineMarks_kbd (s : State) : (s.testLineMarks).kbd = s.kbd := by simp [State.testLineMarks]
@[simp] theorem State.testLineMarks_arb (s : State) : (s.testLineMarks).arb = s.arb := by simp [State.testLineMarks]
@[simp] theorem State.testLineMarks_engine (s : State) : (s.testLineMarks).engine = s.engine := by simp [State.testLineMarks]
@[simp] theorem State.testLineMarks_monitor (s : State) : (s.testLineMarks).monitor = s.monitor := by simp [State.testLineMarks]
@[simp] theorem State.testLineMarks_settings (s : State) : (s.testLineMarks).settings = s.settings := by simp [State.testLineMarks]
@[simp] theorem State.testLineMarks_portA (s : State) : (s.testLineMarks).portA = s.portA := by simp [State.testLineMarks]
@[simp] theorem State.testLineMarks_lastB (s : State) : (s.testLineMarks).lastB = s.lastB := by simp [State.testLineMarks]
@[simp] theorem State.testLineMarks_addrHigh (s : State) : (s.testLineMarks).addrHigh = s.addrHigh := by simp [State.testLineMarks]
@[simp] theorem State.testLineMarks_power (s : State) : (s.testLineMarks).power = s.power := by simp [State.testLineMarks]
@[simp] theorem State.testLineMarks_startupTimer (s : State) : (s.testLineMarks).startupTimer = s.startupTimer := by simp [State.testLineMarks]
@[simp] theorem State.testLineMarks_startups (s : State) : (s.testLineMarks).startups = s.startups := by simp [State.testLineMarks]
@[simp] theorem State.testLineMarks_pending (s : State) : (s.testLineMarks).pending = s.pending := by simp [State.testLineMarks]
@[simp] theorem State.testPrintMark_slots (s : State) (p : Port) : (s.testPrintMark p).slots = s.slots := by
  unfold State.testPrintMark; split
  · split <;> rfl
  · rfl
@[simp] theorem State.testPrintMark_modem (s : State) (p : Port) : (s.testPrintMark p).modem = s.modem := by
  unfold State.testPrintMark; split
  · split <;> rfl
  · rfl
@[simp] theorem State.testPrintMark_sup (s : State) (p : Port) : (s.testPrintMark p).sup = s.sup := by
  unfold State.testPrintMark; split
  · split <;> rfl
  · rfl
@[simp] theorem State.testPrintMark_parser (s : State) (p : Port) : (s.testPrintMark p).parser = s.parser := by
  unfold State.testPrintMark; split
  · split <;> rfl
  · rfl
@[simp] theorem State.testPrintMark_sched (s : State) (p : Port) : (s.testPrintMark p).sched = s.sched := by
  unfold State.testPrintMark; split
  · split <;> rfl
  · rfl
@[simp] theorem State.testPrintMark_kbd (s : State) (p : Port) : (s.testPrintMark p).kbd = s.kbd := by
  unfold State.testPrintMark; split
  · split <;> rfl
  · rfl
@[simp] theorem State.testPrintMark_engine (s : State) (p : Port) : (s.testPrintMark p).engine = s.engine := by
  unfold State.testPrintMark; split
  · split <;> rfl
  · rfl
@[simp] theorem State.testPrintMark_monitor (s : State) (p : Port) : (s.testPrintMark p).monitor = s.monitor := by
  unfold State.testPrintMark; split
  · split <;> rfl
  · rfl
@[simp] theorem State.testPrintMark_settings (s : State) (p : Port) : (s.testPrintMark p).settings = s.settings := by
  unfold State.testPrintMark; split
  · split <;> rfl
  · rfl
@[simp] theorem State.testPrintMark_portA (s : State) (p : Port) : (s.testPrintMark p).portA = s.portA := by
  unfold State.testPrintMark; split
  · split <;> rfl
  · rfl
@[simp] theorem State.testPrintMark_lastB (s : State) (p : Port) : (s.testPrintMark p).lastB = s.lastB := by
  unfold State.testPrintMark; split
  · split <;> rfl
  · rfl
@[simp] theorem State.testPrintMark_addrHigh (s : State) (p : Port) : (s.testPrintMark p).addrHigh = s.addrHigh := by
  unfold State.testPrintMark; split
  · split <;> rfl
  · rfl
@[simp] theorem State.testPrintMark_power (s : State) (p : Port) : (s.testPrintMark p).power = s.power := by
  unfold State.testPrintMark; split
  · split <;> rfl
  · rfl
@[simp] theorem State.testPrintMark_startupTimer (s : State) (p : Port) : (s.testPrintMark p).startupTimer = s.startupTimer := by
  unfold State.testPrintMark; split
  · split <;> rfl
  · rfl
@[simp] theorem State.testPrintMark_startups (s : State) (p : Port) : (s.testPrintMark p).startups = s.startups := by
  unfold State.testPrintMark; split
  · split <;> rfl
  · rfl
@[simp] theorem State.testPrintMark_pending (s : State) (p : Port) : (s.testPrintMark p).pending = s.pending := by
  unfold State.testPrintMark; split
  · split <;> rfl
  · rfl
@[simp] theorem State.testPrintMarks_slots (s : State) : (s.testPrintMarks).slots = s.slots := by simp [State.testPrintMarks]
@[simp] theorem State.testPrintMarks_modem (s : State) : (s.testPrintMarks).modem = s.modem := by simp [State.testPrintMarks]
@[simp] theorem State.testPrintMarks_sup (s : State) : (s.testPrintMarks).sup = s.sup := by simp [State.testPrintMarks]
@[simp] theorem State.testPrintMarks_parser (s : State) : (s.testPrintMarks).parser = s.parser := by simp [State.testPrintMarks]
@[simp] theorem State.testPrintMarks_sched (s : State) : (s.testPrintMarks).sched = s.sched := by simp [State.testPrintMarks]
@[simp] theorem State.testPrintMarks_kbd (s : State) : (s.testPrintMarks).kbd = s.kbd := by simp [State.testPrintMarks]
@[simp] theorem State.testPrintMarks_engine (s : State) : (s.testPrintMarks).engine = s.engine := by simp [State.testPrintMarks]
@[simp] theorem State.testPrintMarks_monitor (s : State) : (s.testPrintMarks).monitor = s.monitor := by simp [State.testPrintMarks]
@[simp] theorem State.testPrintMarks_settings (s : State) : (s.testPrintMarks).settings = s.settings := by simp [State.testPrintMarks]
@[simp] theorem State.testPrintMarks_portA (s : State) : (s.testPrintMarks).portA = s.portA := by simp [State.testPrintMarks]
@[simp] theorem State.testPrintMarks_lastB (s : State) : (s.testPrintMarks).lastB = s.lastB := by simp [State.testPrintMarks]
@[simp] theorem State.testPrintMarks_addrHigh (s : State) : (s.testPrintMarks).addrHigh = s.addrHigh := by simp [State.testPrintMarks]
@[simp] theorem State.testPrintMarks_power (s : State) : (s.testPrintMarks).power = s.power := by simp [State.testPrintMarks]
@[simp] theorem State.testPrintMarks_startupTimer (s : State) : (s.testPrintMarks).startupTimer = s.startupTimer := by simp [State.testPrintMarks]
@[simp] theorem State.testPrintMarks_startups (s : State) : (s.testPrintMarks).startups = s.startups := by simp [State.testPrintMarks]
@[simp] theorem State.testPrintMarks_pending (s : State) : (s.testPrintMarks).pending = s.pending := by simp [State.testPrintMarks]
@[simp] theorem State.changePrintMarks_slots (s : State) (f : MarkRecord → MarkRecord) : (s.changePrintMarks f).slots = s.slots := by
  simp [State.changePrintMarks]
@[simp] theorem State.changePrintMarks_modem (s : State) (f : MarkRecord → MarkRecord) : (s.changePrintMarks f).modem = s.modem := by
  simp [State.changePrintMarks]
@[simp] theorem State.changePrintMarks_sup (s : State) (f : MarkRecord → MarkRecord) : (s.changePrintMarks f).sup = s.sup := by
  simp [State.changePrintMarks]
@[simp] theorem State.changePrintMarks_parser (s : State) (f : MarkRecord → MarkRecord) : (s.changePrintMarks f).parser = s.parser := by
  simp [State.changePrintMarks]
@[simp] theorem State.changePrintMarks_sched (s : State) (f : MarkRecord → MarkRecord) : (s.changePrintMarks f).sched = s.sched := by
  simp [State.changePrintMarks]
@[simp] theorem State.changePrintMarks_kbd (s : State) (f : MarkRecord → MarkRecord) : (s.changePrintMarks f).kbd = s.kbd := by
  simp [State.changePrintMarks]
@[simp] theorem State.changePrintMarks_engine (s : State) (f : MarkRecord → MarkRecord) : (s.changePrintMarks f).engine = s.engine := by
  simp [State.changePrintMarks]
@[simp] theorem State.changePrintMarks_monitor (s : State) (f : MarkRecord → MarkRecord) : (s.changePrintMarks f).monitor = s.monitor := by
  simp [State.changePrintMarks]
@[simp] theorem State.changePrintMarks_settings (s : State) (f : MarkRecord → MarkRecord) : (s.changePrintMarks f).settings = s.settings := by
  simp [State.changePrintMarks]
@[simp] theorem State.changePrintMarks_portA (s : State) (f : MarkRecord → MarkRecord) : (s.changePrintMarks f).portA = s.portA := by
  simp [State.changePrintMarks]
@[simp] theorem State.changePrintMarks_lastB (s : State) (f : MarkRecord → MarkRecord) : (s.changePrintMarks f).lastB = s.lastB := by
  simp [State.changePrintMarks]
@[simp] theorem State.changePrintMarks_addrHigh (s : State) (f : MarkRecord → MarkRecord) : (s.changePrintMarks f).addrHigh = s.addrHigh := by
  simp [State.changePrintMarks]
@[simp] theorem State.changePrintMarks_power (s : State) (f : MarkRecord → MarkRecord) : (s.changePrintMarks f).power = s.power := by
  simp [State.changePrintMarks]
@[simp] theorem State.changePrintMarks_startupTimer (s : State) (f : MarkRecord → MarkRecord) : (s.changePrintMarks f).startupTimer = s.startupTimer := by
  simp [State.changePrintMarks]
@[simp] theorem State.changePrintMarks_startups (s : State) (f : MarkRecord → MarkRecord) : (s.changePrintMarks f).startups = s.startups := by
  simp [State.changePrintMarks]
@[simp] theorem State.changePrintMarks_pending (s : State) (f : MarkRecord → MarkRecord) : (s.changePrintMarks f).pending = s.pending := by
  simp [State.changePrintMarks]
@[simp] theorem State.dropJob_slots (s : State) (k : JobKind) (i : SlotId) : (s.dropJob k i).slots = s.slots := by simp [State.dropJob]
@[simp] theorem State.dropJob_modem (s : State) (k : JobKind) (i : SlotId) : (s.dropJob k i).modem = s.modem := by simp [State.dropJob]
@[simp] theorem State.dropJob_sup (s : State) (k : JobKind) (i : SlotId) : (s.dropJob k i).sup = s.sup := by simp [State.dropJob]
@[simp] theorem State.dropJob_parser (s : State) (k : JobKind) (i : SlotId) : (s.dropJob k i).parser = s.parser := by simp [State.dropJob]
@[simp] theorem State.dropJob_sched (s : State) (k : JobKind) (i : SlotId) : (s.dropJob k i).sched = s.sched := by simp [State.dropJob]
@[simp] theorem State.dropJob_kbd (s : State) (k : JobKind) (i : SlotId) : (s.dropJob k i).kbd = s.kbd := by simp [State.dropJob]
@[simp] theorem State.dropJob_engine (s : State) (k : JobKind) (i : SlotId) : (s.dropJob k i).engine = s.engine := by simp [State.dropJob]
@[simp] theorem State.dropJob_monitor (s : State) (k : JobKind) (i : SlotId) : (s.dropJob k i).monitor = s.monitor := by simp [State.dropJob]
@[simp] theorem State.dropJob_settings (s : State) (k : JobKind) (i : SlotId) : (s.dropJob k i).settings = s.settings := by simp [State.dropJob]
@[simp] theorem State.dropJob_portA (s : State) (k : JobKind) (i : SlotId) : (s.dropJob k i).portA = s.portA := by simp [State.dropJob]
@[simp] theorem State.dropJob_lastB (s : State) (k : JobKind) (i : SlotId) : (s.dropJob k i).lastB = s.lastB := by simp [State.dropJob]
@[simp] theorem State.dropJob_addrHigh (s : State) (k : JobKind) (i : SlotId) : (s.dropJob k i).addrHigh = s.addrHigh := by simp [State.dropJob]
@[simp] theorem State.dropJob_power (s : State) (k : JobKind) (i : SlotId) : (s.dropJob k i).power = s.power := by simp [State.dropJob]
@[simp] theorem State.dropJob_startupTimer (s : State) (k : JobKind) (i : SlotId) : (s.dropJob k i).startupTimer = s.startupTimer := by simp [State.dropJob]
@[simp] theorem State.dropJob_startups (s : State) (k : JobKind) (i : SlotId) : (s.dropJob k i).startups = s.startups := by simp [State.dropJob]
@[simp] theorem State.dropJob_pending (s : State) (k : JobKind) (i : SlotId) : (s.dropJob k i).pending = s.pending := by simp [State.dropJob]
@[simp] theorem State.toSink_slots (s : State) (b : Byte) (f : Bool) : (s.toSink b f).slots = s.slots := by
  simp only [State.toSink, State.turnLocalFlow]; split_ifs <;> simp
@[simp] theorem State.toSink_modem (s : State) (b : Byte) (f : Bool) : (s.toSink b f).modem = s.modem := by
  simp only [State.toSink, State.turnLocalFlow]; split_ifs <;> simp
@[simp] theorem State.toSink_sup (s : State) (b : Byte) (f : Bool) : (s.toSink b f).sup = s.sup := by
  simp only [State.toSink, State.turnLocalFlow]; split_ifs <;> simp
@[simp] theorem State.toSink_sched (s : State) (b : Byte) (f : Bool) : (s.toSink b f).sched = s.sched := by
  simp only [State.toSink, State.turnLocalFlow]; split_ifs <;> simp
@[simp] theorem State.toSink_kbd (s : State) (b : Byte) (f : Bool) : (s.toSink b f).kbd = s.kbd := by
  simp only [State.toSink, State.turnLocalFlow]; split_ifs <;> simp
@[simp] theorem State.toSink_arb (s : State) (b : Byte) (f : Bool) : (s.toSink b f).arb = s.arb := by
  simp only [State.toSink, State.turnLocalFlow]; split_ifs <;> simp
@[simp] theorem State.toSink_engine (s : State) (b : Byte) (f : Bool) : (s.toSink b f).engine = s.engine := by
  simp only [State.toSink, State.turnLocalFlow]; split_ifs <;> simp
@[simp] theorem State.toSink_monitor (s : State) (b : Byte) (f : Bool) : (s.toSink b f).monitor = s.monitor := by
  simp only [State.toSink, State.turnLocalFlow]; split_ifs <;> simp
@[simp] theorem State.toSink_settings (s : State) (b : Byte) (f : Bool) : (s.toSink b f).settings = s.settings := by
  simp only [State.toSink, State.turnLocalFlow]; split_ifs <;> simp
@[simp] theorem State.toSink_portA (s : State) (b : Byte) (f : Bool) : (s.toSink b f).portA = s.portA := by
  simp only [State.toSink, State.turnLocalFlow]; split_ifs <;> simp
@[simp] theorem State.toSink_lastB (s : State) (b : Byte) (f : Bool) : (s.toSink b f).lastB = s.lastB := by
  simp only [State.toSink, State.turnLocalFlow]; split_ifs <;> simp
@[simp] theorem State.toSink_addrHigh (s : State) (b : Byte) (f : Bool) : (s.toSink b f).addrHigh = s.addrHigh := by
  simp only [State.toSink, State.turnLocalFlow]; split_ifs <;> simp
@[simp] theorem State.toSink_power (s : State) (b : Byte) (f : Bool) : (s.toSink b f).power = s.power := by
  simp only [State.toSink, State.turnLocalFlow]; split_ifs <;> simp
@[simp] theorem State.toSink_startupTimer (s : State) (b : Byte) (f : Bool) : (s.toSink b f).startupTimer = s.startupTimer := by
  simp only [State.toSink, State.turnLocalFlow]; split_ifs <;> simp
@[simp] theorem State.toSink_startups (s : State) (b : Byte) (f : Bool) : (s.toSink b f).startups = s.startups := by
  simp only [State.toSink, State.turnLocalFlow]; split_ifs <;> simp
@[simp] theorem State.toSink_pending (s : State) (b : Byte) (f : Bool) : (s.toSink b f).pending = s.pending := by
  simp only [State.toSink, State.turnLocalFlow]; split_ifs <;> simp
@[simp] theorem State.departFifo_slots (s : State) (n : Nat) (b : Bool) : (s.departFifo n b).slots = s.slots := by
  simp only [State.departFifo, State.turnLocalFlow]; split_ifs <;> simp
@[simp] theorem State.departFifo_modem (s : State) (n : Nat) (b : Bool) : (s.departFifo n b).modem = s.modem := by
  simp only [State.departFifo, State.turnLocalFlow]; split_ifs <;> simp
@[simp] theorem State.departFifo_sup (s : State) (n : Nat) (b : Bool) : (s.departFifo n b).sup = s.sup := by
  simp only [State.departFifo, State.turnLocalFlow]; split_ifs <;> simp
@[simp] theorem State.departFifo_sched (s : State) (n : Nat) (b : Bool) : (s.departFifo n b).sched = s.sched := by
  simp only [State.departFifo, State.turnLocalFlow]; split_ifs <;> simp
@[simp] theorem State.departFifo_kbd (s : State) (n : Nat) (b : Bool) : (s.departFifo n b).kbd = s.kbd := by
  simp only [State.departFifo, State.turnLocalFlow]; split_ifs <;> simp
@[simp] theorem State.departFifo_engine (s : State) (n : Nat) (b : Bool) : (s.departFifo n b).engine = s.engine := by
  simp only [State.departFifo, State.turnLocalFlow]; split_ifs <;> simp
@[simp] theorem State.departFifo_monitor (s : State) (n : Nat) (b : Bool) : (s.departFifo n b).monitor = s.monitor := by
  simp only [State.departFifo, State.turnLocalFlow]; split_ifs <;> simp
@[simp] theorem State.departFifo_settings (s : State) (n : Nat) (b : Bool) : (s.departFifo n b).settings = s.settings := by
  simp only [State.departFifo, State.turnLocalFlow]; split_ifs <;> simp
@[simp] theorem State.departFifo_portA (s : State) (n : Nat) (b : Bool) : (s.departFifo n b).portA = s.portA := by
  simp only [State.departFifo, State.turnLocalFlow]; split_ifs <;> simp
@[simp] theorem State.departFifo_lastB (s : State) (n : Nat) (b : Bool) : (s.departFifo n b).lastB = s.lastB := by
  simp only [State.departFifo, State.turnLocalFlow]; split_ifs <;> simp
@[simp] theorem State.departFifo_addrHigh (s : State) (n : Nat) (b : Bool) : (s.departFifo n b).addrHigh = s.addrHigh := by
  simp only [State.departFifo, State.turnLocalFlow]; split_ifs <;> simp
@[simp] theorem State.departFifo_power (s : State) (n : Nat) (b : Bool) : (s.departFifo n b).power = s.power := by
  simp only [State.departFifo, State.turnLocalFlow]; split_ifs <;> simp
@[simp] theorem State.departFifo_startupTimer (s : State) (n : Nat) (b : Bool) : (s.departFifo n b).startupTimer = s.startupTimer := by
  simp only [State.departFifo, State.turnLocalFlow]; split_ifs <;> simp
@[simp] theorem State.departFifo_startups (s : State) (n : Nat) (b : Bool) : (s.departFifo n b).startups = s.startups := by
  simp only [State.departFifo, State.turnLocalFlow]; split_ifs <;> simp
@[simp] theorem State.departFifo_pending (s : State) (n : Nat) (b : Bool) : (s.departFifo n b).pending = s.pending := by
  simp only [State.departFifo, State.turnLocalFlow]; split_ifs <;> simp
@[simp] theorem State.departCopy_slots (s : State) (n : Nat) : (s.departCopy n).slots = s.slots := by
  simp only [State.departCopy]; split_ifs <;> simp
@[simp] theorem State.departCopy_modem (s : State) (n : Nat) : (s.departCopy n).modem = s.modem := by
  simp only [State.departCopy]; split_ifs <;> simp
@[simp] theorem State.departCopy_sup (s : State) (n : Nat) : (s.departCopy n).sup = s.sup := by
  simp only [State.departCopy]; split_ifs <;> simp
@[simp] theorem State.departCopy_parser (s : State) (n : Nat) : (s.departCopy n).parser = s.parser := by
  simp only [State.departCopy]; split_ifs <;> simp
@[simp] theorem State.departCopy_sched (s : State) (n : Nat) : (s.departCopy n).sched = s.sched := by
  simp only [State.departCopy]; split_ifs <;> simp
@[simp] theorem State.departCopy_kbd (s : State) (n : Nat) : (s.departCopy n).kbd = s.kbd := by
  simp only [State.departCopy]; split_ifs <;> simp
@[simp] theorem State.departCopy_engine (s : State) (n : Nat) : (s.departCopy n).engine = s.engine := by
  simp only [State.departCopy]; split_ifs <;> simp
@[simp] theorem State.departCopy_monitor (s : State) (n : Nat) : (s.departCopy n).monitor = s.monitor := by
  simp only [State.departCopy]; split_ifs <;> simp
@[simp] theorem State.departCopy_settings (s : State) (n : Nat) : (s.departCopy n).settings = s.settings := by
  simp only [State.departCopy]; split_ifs <;> simp
@[simp] theorem State.departCopy_portA (s : State) (n : Nat) : (s.departCopy n).portA = s.portA := by
  simp only [State.departCopy]; split_ifs <;> simp
@[simp] theorem State.departCopy_lastB (s : State) (n : Nat) : (s.departCopy n).lastB = s.lastB := by
  simp only [State.departCopy]; split_ifs <;> simp
@[simp] theorem State.departCopy_addrHigh (s : State) (n : Nat) : (s.departCopy n).addrHigh = s.addrHigh := by
  simp only [State.departCopy]; split_ifs <;> simp
@[simp] theorem State.departCopy_power (s : State) (n : Nat) : (s.departCopy n).power = s.power := by
  simp only [State.departCopy]; split_ifs <;> simp
@[simp] theorem State.departCopy_startupTimer (s : State) (n : Nat) : (s.departCopy n).startupTimer = s.startupTimer := by
  simp only [State.departCopy]; split_ifs <;> simp
@[simp] theorem State.departCopy_startups (s : State) (n : Nat) : (s.departCopy n).startups = s.startups := by
  simp only [State.departCopy]; split_ifs <;> simp
@[simp] theorem State.departCopy_pending (s : State) (n : Nat) : (s.departCopy n).pending = s.pending := by
  simp only [State.departCopy]; split_ifs <;> simp
@[simp] theorem State.emptyFifo_slots (s : State) : (s.emptyFifo).slots = s.slots := by simp [State.emptyFifo]
@[simp] theorem State.emptyFifo_modem (s : State) : (s.emptyFifo).modem = s.modem := by simp [State.emptyFifo]
@[simp] theorem State.emptyFifo_sup (s : State) : (s.emptyFifo).sup = s.sup := by simp [State.emptyFifo]
@[simp] theorem State.emptyFifo_sched (s : State) : (s.emptyFifo).sched = s.sched := by simp [State.emptyFifo]
@[simp] theorem State.emptyFifo_kbd (s : State) : (s.emptyFifo).kbd = s.kbd := by simp [State.emptyFifo]
@[simp] theorem State.emptyFifo_engine (s : State) : (s.emptyFifo).engine = s.engine := by simp [State.emptyFifo]
@[simp] theorem State.emptyFifo_monitor (s : State) : (s.emptyFifo).monitor = s.monitor := by simp [State.emptyFifo]
@[simp] theorem State.emptyFifo_settings (s : State) : (s.emptyFifo).settings = s.settings := by simp [State.emptyFifo]
@[simp] theorem State.emptyFifo_portA (s : State) : (s.emptyFifo).portA = s.portA := by simp [State.emptyFifo]
@[simp] theorem State.emptyFifo_lastB (s : State) : (s.emptyFifo).lastB = s.lastB := by simp [State.emptyFifo]
@[simp] theorem State.emptyFifo_addrHigh (s : State) : (s.emptyFifo).addrHigh = s.addrHigh := by simp [State.emptyFifo]
@[simp] theorem State.emptyFifo_power (s : State) : (s.emptyFifo).power = s.power := by simp [State.emptyFifo]
@[simp] theorem State.emptyFifo_startupTimer (s : State) : (s.emptyFifo).startupTimer = s.startupTimer := by simp [State.emptyFifo]
@[simp] theorem State.emptyFifo_startups (s : State) : (s.emptyFifo).startups = s.startups := by simp [State.emptyFifo]
@[simp] theorem State.emptyFifo_pending (s : State) : (s.emptyFifo).pending = s.pending := by simp [State.emptyFifo]
@[simp] theorem State.checkRow_slots (s : State) : (s.checkRow).slots = s.slots := by
  simp only [State.checkRow, State.fireRow, State.holdRow]; split_ifs <;> simp
@[simp] theorem State.checkRow_modem (s : State) : (s.checkRow).modem = s.modem := by
  simp only [State.checkRow, State.fireRow, State.holdRow]; split_ifs <;> simp
@[simp] theorem State.checkRow_sup (s : State) : (s.checkRow).sup = s.sup := by
  simp only [State.checkRow, State.fireRow, State.holdRow]; split_ifs <;> simp
@[simp] theorem State.checkRow_parser (s : State) : (s.checkRow).parser = s.parser := by
  simp only [State.checkRow, State.fireRow, State.holdRow]; split_ifs <;> simp
@[simp] theorem State.checkRow_sched (s : State) : (s.checkRow).sched = s.sched := by
  simp only [State.checkRow, State.fireRow, State.holdRow]; split_ifs <;> simp
@[simp] theorem State.checkRow_kbd (s : State) : (s.checkRow).kbd = s.kbd := by
  simp only [State.checkRow, State.fireRow, State.holdRow]; split_ifs <;> simp
@[simp] theorem State.checkRow_arb (s : State) : (s.checkRow).arb = s.arb := by
  simp only [State.checkRow, State.fireRow, State.holdRow]; split_ifs <;> simp
@[simp] theorem State.checkRow_monitor (s : State) : (s.checkRow).monitor = s.monitor := by
  simp only [State.checkRow, State.fireRow, State.holdRow]; split_ifs <;> simp
@[simp] theorem State.checkRow_settings (s : State) : (s.checkRow).settings = s.settings := by
  simp only [State.checkRow, State.fireRow, State.holdRow]; split_ifs <;> simp
@[simp] theorem State.checkRow_portA (s : State) : (s.checkRow).portA = s.portA := by
  simp only [State.checkRow, State.fireRow, State.holdRow]; split_ifs <;> simp
@[simp] theorem State.checkRow_lastB (s : State) : (s.checkRow).lastB = s.lastB := by
  simp only [State.checkRow, State.fireRow, State.holdRow]; split_ifs <;> simp
@[simp] theorem State.checkRow_addrHigh (s : State) : (s.checkRow).addrHigh = s.addrHigh := by
  simp only [State.checkRow, State.fireRow, State.holdRow]; split_ifs <;> simp
@[simp] theorem State.checkRow_power (s : State) : (s.checkRow).power = s.power := by
  simp only [State.checkRow, State.fireRow, State.holdRow]; split_ifs <;> simp
@[simp] theorem State.checkRow_startupTimer (s : State) : (s.checkRow).startupTimer = s.startupTimer := by
  simp only [State.checkRow, State.fireRow, State.holdRow]; split_ifs <;> simp
@[simp] theorem State.checkRow_startups (s : State) : (s.checkRow).startups = s.startups := by
  simp only [State.checkRow, State.fireRow, State.holdRow]; split_ifs <;> simp
@[simp] theorem State.checkRow_pending (s : State) : (s.checkRow).pending = s.pending := by
  simp only [State.checkRow, State.fireRow, State.holdRow]; split_ifs <;> simp
@[simp] theorem State.takeLine_slots (s : State) (l : TextLine) : (s.takeLine l).slots = s.slots := by simp [State.takeLine]
@[simp] theorem State.takeLine_modem (s : State) (l : TextLine) : (s.takeLine l).modem = s.modem := by simp [State.takeLine]
@[simp] theorem State.takeLine_sup (s : State) (l : TextLine) : (s.takeLine l).sup = s.sup := by simp [State.takeLine]
@[simp] theorem State.takeLine_parser (s : State) (l : TextLine) : (s.takeLine l).parser = s.parser := by simp [State.takeLine]
@[simp] theorem State.takeLine_sched (s : State) (l : TextLine) : (s.takeLine l).sched = s.sched := by simp [State.takeLine]
@[simp] theorem State.takeLine_kbd (s : State) (l : TextLine) : (s.takeLine l).kbd = s.kbd := by simp [State.takeLine]
@[simp] theorem State.takeLine_arb (s : State) (l : TextLine) : (s.takeLine l).arb = s.arb := by simp [State.takeLine]
@[simp] theorem State.takeLine_monitor (s : State) (l : TextLine) : (s.takeLine l).monitor = s.monitor := by simp [State.takeLine]
@[simp] theorem State.takeLine_settings (s : State) (l : TextLine) : (s.takeLine l).settings = s.settings := by simp [State.takeLine]
@[simp] theorem State.takeLine_portA (s : State) (l : TextLine) : (s.takeLine l).portA = s.portA := by simp [State.takeLine]
@[simp] theorem State.takeLine_lastB (s : State) (l : TextLine) : (s.takeLine l).lastB = s.lastB := by simp [State.takeLine]
@[simp] theorem State.takeLine_addrHigh (s : State) (l : TextLine) : (s.takeLine l).addrHigh = s.addrHigh := by simp [State.takeLine]
@[simp] theorem State.takeLine_power (s : State) (l : TextLine) : (s.takeLine l).power = s.power := by simp [State.takeLine]
@[simp] theorem State.takeLine_startupTimer (s : State) (l : TextLine) : (s.takeLine l).startupTimer = s.startupTimer := by simp [State.takeLine]
@[simp] theorem State.takeLine_startups (s : State) (l : TextLine) : (s.takeLine l).startups = s.startups := by simp [State.takeLine]
@[simp] theorem State.takeLine_pending (s : State) (l : TextLine) : (s.takeLine l).pending = s.pending := by simp [State.takeLine]
@[simp] theorem State.paperStall_slots (s : State) : (s.paperStall).slots = s.slots := by
  simp only [State.paperStall]; split_ifs <;> simp
@[simp] theorem State.paperStall_modem (s : State) : (s.paperStall).modem = s.modem := by
  simp only [State.paperStall]; split_ifs <;> simp
@[simp] theorem State.paperStall_sup (s : State) : (s.paperStall).sup = s.sup := by
  simp only [State.paperStall]; split_ifs <;> simp
@[simp] theorem State.paperStall_parser (s : State) : (s.paperStall).parser = s.parser := by
  simp only [State.paperStall]; split_ifs <;> simp
@[simp] theorem State.paperStall_sched (s : State) : (s.paperStall).sched = s.sched := by
  simp only [State.paperStall]; split_ifs <;> simp
@[simp] theorem State.paperStall_kbd (s : State) : (s.paperStall).kbd = s.kbd := by
  simp only [State.paperStall]; split_ifs <;> simp
@[simp] theorem State.paperStall_arb (s : State) : (s.paperStall).arb = s.arb := by
  simp only [State.paperStall]; split_ifs <;> simp
@[simp] theorem State.paperStall_monitor (s : State) : (s.paperStall).monitor = s.monitor := by
  simp only [State.paperStall]; split_ifs <;> simp
@[simp] theorem State.paperStall_settings (s : State) : (s.paperStall).settings = s.settings := by
  simp only [State.paperStall]; split_ifs <;> simp
@[simp] theorem State.paperStall_portA (s : State) : (s.paperStall).portA = s.portA := by
  simp only [State.paperStall]; split_ifs <;> simp
@[simp] theorem State.paperStall_lastB (s : State) : (s.paperStall).lastB = s.lastB := by
  simp only [State.paperStall]; split_ifs <;> simp
@[simp] theorem State.paperStall_addrHigh (s : State) : (s.paperStall).addrHigh = s.addrHigh := by
  simp only [State.paperStall]; split_ifs <;> simp
@[simp] theorem State.paperStall_power (s : State) : (s.paperStall).power = s.power := by
  simp only [State.paperStall]; split_ifs <;> simp
@[simp] theorem State.paperStall_startupTimer (s : State) : (s.paperStall).startupTimer = s.startupTimer := by
  simp only [State.paperStall]; split_ifs <;> simp
@[simp] theorem State.paperStall_startups (s : State) : (s.paperStall).startups = s.startups := by
  simp only [State.paperStall]; split_ifs <;> simp
@[simp] theorem State.paperStall_pending (s : State) : (s.paperStall).pending = s.pending := by
  simp only [State.paperStall]; split_ifs <;> simp
@[simp] theorem State.judgeSupply_slots (s : State) : (s.judgeSupply).slots = s.slots := by
  simp only [State.judgeSupply]; split_ifs <;> simp
@[simp] theorem State.judgeSupply_modem (s : State) : (s.judgeSupply).modem = s.modem := by
  simp only [State.judgeSupply]; split_ifs <;> simp
@[simp] theorem State.judgeSupply_sup (s : State) : (s.judgeSupply).sup = s.sup := by
  simp only [State.judgeSupply]; split_ifs <;> simp
@[simp] theorem State.judgeSupply_parser (s : State) : (s.judgeSupply).parser = s.parser := by
  simp only [State.judgeSupply]; split_ifs <;> simp
@[simp] theorem State.judgeSupply_sched (s : State) : (s.judgeSupply).sched = s.sched := by
  simp only [State.judgeSupply]; split_ifs <;> simp
@[simp] theorem State.judgeSupply_kbd (s : State) : (s.judgeSupply).kbd = s.kbd := by
  simp only [State.judgeSupply]; split_ifs <;> simp
@[simp] theorem State.judgeSupply_arb (s : State) : (s.judgeSupply).arb = s.arb := by
  simp only [State.judgeSupply]; split_ifs <;> simp
@[simp] theorem State.judgeSupply_engine (s : State) : (s.judgeSupply).engine = s.engine := by
  simp only [State.judgeSupply]; split_ifs <;> simp
@[simp] theorem State.judgeSupply_settings (s : State) : (s.judgeSupply).settings = s.settings := by
  simp only [State.judgeSupply]; split_ifs <;> simp
@[simp] theorem State.judgeSupply_portA (s : State) : (s.judgeSupply).portA = s.portA := by
  simp only [State.judgeSupply]; split_ifs <;> simp
@[simp] theorem State.judgeSupply_lastB (s : State) : (s.judgeSupply).lastB = s.lastB := by
  simp only [State.judgeSupply]; split_ifs <;> simp
@[simp] theorem State.judgeSupply_addrHigh (s : State) : (s.judgeSupply).addrHigh = s.addrHigh := by
  simp only [State.judgeSupply]; split_ifs <;> simp
@[simp] theorem State.judgeSupply_power (s : State) : (s.judgeSupply).power = s.power := by
  simp only [State.judgeSupply]; split_ifs <;> simp
@[simp] theorem State.judgeSupply_startupTimer (s : State) : (s.judgeSupply).startupTimer = s.startupTimer := by
  simp only [State.judgeSupply]; split_ifs <;> simp
@[simp] theorem State.judgeSupply_startups (s : State) : (s.judgeSupply).startups = s.startups := by
  simp only [State.judgeSupply]; split_ifs <;> simp
@[simp] theorem State.judgeSupply_pending (s : State) : (s.judgeSupply).pending = s.pending := by
  simp only [State.judgeSupply]; split_ifs <;> simp
@[simp] theorem State.measureBattery_slots (s : State) (v : Nat) : (s.measureBattery v).slots = s.slots := by
  simp only [State.measureBattery]; split_ifs <;> simp
@[simp] theorem State.measureBattery_modem (s : State) (v : Nat) : (s.measureBattery v).modem = s.modem := by
  simp only [State.measureBattery]; split_ifs <;> simp
@[simp] theorem State.measureBattery_sup (s : State) (v : Nat) : (s.measureBattery v).sup = s.sup := by
  simp only [State.measureBattery]; split_ifs <;> simp
@[simp] theorem State.measureBattery_parser (s : State) (v : Nat) : (s.measureBattery v).parser = s.parser := by
  simp only [State.measureBattery]; split_ifs <;> simp
@[simp] theorem State.measureBattery_sched (s : State) (v : Nat) : (s.measureBattery v).sched = s.sched := by
  simp only [State.measureBattery]; split_ifs <;> simp
@[simp] theorem State.measureBattery_kbd (s : State) (v : Nat) : (s.measureBattery v).kbd = s.kbd := by
  simp only [State.measureBattery]; split_ifs <;> simp
@[simp] theorem State.measureBattery_arb (s : State) (v : Nat) : (s.measureBattery v).arb = s.arb := by
  simp only [State.measureBattery]; split_ifs <;> simp
@[simp] theorem State.measureBattery_settings (s : State) (v : Nat) : (s.measureBattery v).settings = s.settings := by
  simp only [State.measureBattery]; split_ifs <;> simp
@[simp] theorem State.measureBattery_portA (s : State) (v : Nat) : (s.measureBattery v).portA = s.portA := by
  simp only [State.measureBattery]; split_ifs <;> simp
@[simp] theorem State.measureBattery_lastB (s : State) (v : Nat) : (s.measureBattery v).lastB = s.lastB := by
  simp only [State.measureBattery]; split_ifs <;> simp
@[simp] theorem State.measureBattery_addrHigh (s : State) (v : Nat) : (s.measureBattery v).addrHigh = s.addrHigh := by
  simp only [State.measureBattery]; split_ifs <;> simp
@[simp] theorem State.measureBattery_power (s : State) (v : Nat) : (s.measureBattery v).power = s.power := by
  simp only [State.measureBattery]; split_ifs <;> simp
@[simp] theorem State.measureBattery_startupTimer (s : State) (v : Nat) : (s.measureBattery v).startupTimer = s.startupTimer := by
  simp only [State.measureBattery]; split_ifs <;> simp
@[simp] theorem State.measureBattery_startups (s : State) (v : Nat) : (s.measureBattery v).startups = s.startups := by
  simp only [State.measureBattery]; split_ifs <;> simp
@[simp] theorem State.measureBattery_pending (s : State) (v : Nat) : (s.measureBattery v).pending = s.pending := by
  simp only [State.measureBattery]; split_ifs <;> simp
@[simp] theorem State.measureHead_slots (s : State) (v : Int) : (s.measureHead v).slots = s.slots := by
  simp only [State.measureHead]; split_ifs <;> simp
@[simp] theorem State.measureHead_modem (s : State) (v : Int) : (s.measureHead v).modem = s.modem := by
  simp only [State.measureHead]; split_ifs <;> simp
@[simp] theorem State.measureHead_sup (s : State) (v : Int) : (s.measureHead v).sup = s.sup := by
  simp only [State.measureHead]; split_ifs <;> simp
@[simp] theorem State.measureHead_parser (s : State) (v : Int) : (s.measureHead v).parser = s.parser := by
  simp only [State.measureHead]; split_ifs <;> simp
@[simp] theorem State.measureHead_sched (s : State) (v : Int) : (s.measureHead v).sched = s.sched := by
  simp only [State.measureHead]; split_ifs <;> simp
@[simp] theorem State.measureHead_kbd (s : State) (v : Int) : (s.measureHead v).kbd = s.kbd := by
  simp only [State.measureHead]; split_ifs <;> simp
@[simp] theorem State.measureHead_arb (s : State) (v : Int) : (s.measureHead v).arb = s.arb := by
  simp only [State.measureHead]; split_ifs <;> simp
@[simp] theorem State.measureHead_settings (s : State) (v : Int) : (s.measureHead v).settings = s.settings := by
  simp only [State.measureHead]; split_ifs <;> simp
@[simp] theorem State.measureHead_portA (s : State) (v : Int) : (s.measureHead v).portA = s.portA := by
  simp only [State.measureHead]; split_ifs <;> simp
@[simp] theorem State.measureHead_lastB (s : State) (v : Int) : (s.measureHead v).lastB = s.lastB := by
  simp only [State.measureHead]; split_ifs <;> simp
@[simp] theorem State.measureHead_addrHigh (s : State) (v : Int) : (s.measureHead v).addrHigh = s.addrHigh := by
  simp only [State.measureHead]; split_ifs <;> simp
@[simp] theorem State.measureHead_power (s : State) (v : Int) : (s.measureHead v).power = s.power := by
  simp only [State.measureHead]; split_ifs <;> simp
@[simp] theorem State.measureHead_startupTimer (s : State) (v : Int) : (s.measureHead v).startupTimer = s.startupTimer := by
  simp only [State.measureHead]; split_ifs <;> simp
@[simp] theorem State.measureHead_startups (s : State) (v : Int) : (s.measureHead v).startups = s.startups := by
  simp only [State.measureHead]; split_ifs <;> simp
@[simp] theorem State.measureHead_pending (s : State) (v : Int) : (s.measureHead v).pending = s.pending := by
  simp only [State.measureHead]; split_ifs <;> simp
@[simp] theorem State.lineEvent_slots (s : State) (r : LineReason) : (s.lineEvent r).slots = s.slots := by
  simp only [State.lineEvent]; split_ifs <;> simp
@[simp] theorem State.lineEvent_modem (s : State) (r : LineReason) : (s.lineEvent r).modem = s.modem := by
  simp only [State.lineEvent]; split_ifs <;> simp
@[simp] theorem State.lineEvent_parser (s : State) (r : LineReason) : (s.lineEvent r).parser = s.parser := by
  simp only [State.lineEvent]; split_ifs <;> simp
@[simp] theorem State.lineEvent_sched (s : State) (r : LineReason) : (s.lineEvent r).sched = s.sched := by
  simp only [State.lineEvent]; split_ifs <;> simp
@[simp] theorem State.lineEvent_kbd (s : State) (r : LineReason) : (s.lineEvent r).kbd = s.kbd := by
  simp only [State.lineEvent]; split_ifs <;> simp
@[simp] theorem State.lineEvent_arb (s : State) (r : LineReason) : (s.lineEvent r).arb = s.arb := by
  simp only [State.lineEvent]; split_ifs <;> simp
@[simp] theorem State.lineEvent_engine (s : State) (r : LineReason) : (s.lineEvent r).engine = s.engine := by
  simp only [State.lineEvent]; split_ifs <;> simp
@[simp] theorem State.lineEvent_settings (s : State) (r : LineReason) : (s.lineEvent r).settings = s.settings := by
  simp only [State.lineEvent]; split_ifs <;> simp
@[simp] theorem State.lineEvent_portA (s : State) (r : LineReason) : (s.lineEvent r).portA = s.portA := by
  simp only [State.lineEvent]; split_ifs <;> simp
@[simp] theorem State.lineEvent_lastB (s : State) (r : LineReason) : (s.lineEvent r).lastB = s.lastB := by
  simp only [State.lineEvent]; split_ifs <;> simp
@[simp] theorem State.lineEvent_addrHigh (s : State) (r : LineReason) : (s.lineEvent r).addrHigh = s.addrHigh := by
  simp only [State.lineEvent]; split_ifs <;> simp
@[simp] theorem State.lineEvent_power (s : State) (r : LineReason) : (s.lineEvent r).power = s.power := by
  simp only [State.lineEvent]; split_ifs <;> simp
@[simp] theorem State.lineEvent_startupTimer (s : State) (r : LineReason) : (s.lineEvent r).startupTimer = s.startupTimer := by
  simp only [State.lineEvent]; split_ifs <;> simp
@[simp] theorem State.lineEvent_startups (s : State) (r : LineReason) : (s.lineEvent r).startups = s.startups := by
  simp only [State.lineEvent]; split_ifs <;> simp
@[simp] theorem State.lineEvent_pending (s : State) (r : LineReason) : (s.lineEvent r).pending = s.pending := by
  simp only [State.lineEvent]; split_ifs <;> simp
@[simp] theorem State.enterIdle_slots (s : State) : (s.enterIdle).slots = s.slots := by simp [State.enterIdle]
@[simp] theorem State.enterIdle_kbd (s : State) : (s.enterIdle).kbd = s.kbd := by simp [State.enterIdle]
@[simp] theorem State.enterIdle_arb (s : State) : (s.enterIdle).arb = s.arb := by simp [State.enterIdle]
@[simp] theorem State.enterIdle_engine (s : State) : (s.enterIdle).engine = s.engine := by simp [State.enterIdle]
@[simp] theorem State.enterIdle_monitor (s : State) : (s.enterIdle).monitor = s.monitor := by simp [State.enterIdle]
@[simp] theorem State.enterIdle_settings (s : State) : (s.enterIdle).settings = s.settings := by simp [State.enterIdle]
@[simp] theorem State.enterIdle_portA (s : State) : (s.enterIdle).portA = s.portA := by simp [State.enterIdle]
@[simp] theorem State.enterIdle_lastB (s : State) : (s.enterIdle).lastB = s.lastB := by simp [State.enterIdle]
@[simp] theorem State.enterIdle_addrHigh (s : State) : (s.enterIdle).addrHigh = s.addrHigh := by simp [State.enterIdle]
@[simp] theorem State.enterIdle_power (s : State) : (s.enterIdle).power = s.power := by simp [State.enterIdle]
@[simp] theorem State.enterIdle_startupTimer (s : State) : (s.enterIdle).startupTimer = s.startupTimer := by simp [State.enterIdle]
@[simp] theorem State.enterIdle_startups (s : State) : (s.enterIdle).startups = s.startups := by simp [State.enterIdle]
@[simp] theorem State.enterIdle_pending (s : State) : (s.enterIdle).pending = s.pending := by simp [State.enterIdle]
@[simp] theorem State.goIdle_slots (s : State) (r : LineReason) : (s.goIdle r).slots = s.slots := by simp [State.goIdle]
@[simp] theorem State.goIdle_kbd (s : State) (r : LineReason) : (s.goIdle r).kbd = s.kbd := by simp [State.goIdle]
@[simp] theorem State.goIdle_arb (s : State) (r : LineReason) : (s.goIdle r).arb = s.arb := by simp [State.goIdle]
@[simp] theorem State.goIdle_engine (s : State) (r : LineReason) : (s.goIdle r).engine = s.engine := by simp [State.goIdle]
@[simp] theorem State.goIdle_settings (s : State) (r : LineReason) : (s.goIdle r).settings = s.settings := by simp [State.goIdle]
@[simp] theorem State.goIdle_portA (s : State) (r : LineReason) : (s.goIdle r).portA = s.portA := by simp [State.goIdle]
@[simp] theorem State.goIdle_lastB (s : State) (r : LineReason) : (s.goIdle r).lastB = s.lastB := by simp [State.goIdle]
@[simp] theorem State.goIdle_addrHigh (s : State) (r : LineReason) : (s.goIdle r).addrHigh = s.addrHigh := by simp [State.goIdle]
@[simp] theorem State.goIdle_power (s : State) (r : LineReason) : (s.goIdle r).power = s.power := by simp [State.goIdle]
@[simp] theorem State.goIdle_startupTimer (s : State) (r : LineReason) : (s.goIdle r).startupTimer = s.startupTimer := by simp [State.goIdle]
@[simp] theorem State.goIdle_startups (s : State) (r : LineReason) : (s.goIdle r).startups = s.startups := by simp [State.goIdle]
@[simp] theorem State.goIdle_pending (s : State) (r : LineReason) : (s.goIdle r).pending = s.pending := by simp [State.goIdle]
@[simp] theorem State.failActive_modem (s : State) (o : EndOutcome) : (s.failActive o).modem = s.modem := by
  unfold State.failActive; split
  · rfl
  · split <;> simp
@[simp] theorem State.failActive_sup (s : State) (o : EndOutcome) : (s.failActive o).sup = s.sup := by
  unfold State.failActive; split
  · rfl
  · split <;> simp
@[simp] theorem State.failActive_parser (s : State) (o : EndOutcome) : (s.failActive o).parser = s.parser := by
  unfold State.failActive; split
  · rfl
  · split <;> simp
@[simp] theorem State.failActive_sched (s : State) (o : EndOutcome) : (s.failActive o).sched = s.sched := by
  unfold State.failActive; split
  · rfl
  · split <;> simp
@[simp] theorem State.failActive_kbd (s : State) (o : EndOutcome) : (s.failActive o).kbd = s.kbd := by
  unfold State.failActive; split
  · rfl
  · split <;> simp
@[simp] theorem State.failActive_arb (s : State) (o : EndOutcome) : (s.failActive o).arb = s.arb := by
  unfold State.failActive; split
  · rfl
  · split <;> simp
@[simp] theorem State.failActive_engine (s : State) (o : EndOutcome) : (s.failActive o).engine = s.engine := by
  unfold State.failActive; split
  · rfl
  · split <;> simp
@[simp] theorem State.failActive_monitor (s : State) (o : EndOutcome) : (s.failActive o).monitor = s.monitor := by
  unfold State.failActive; split
  · rfl
  · split <;> simp
@[simp] theorem State.failActive_settings (s : State) (o : EndOutcome) : (s.failActive o).settings = s.settings := by
  unfold State.failActive; split
  · rfl
  · split <;> simp
@[simp] theorem State.failActive_portA (s : State) (o : EndOutcome) : (s.failActive o).portA = s.portA := by
  unfold State.failActive; split
  · rfl
  · split <;> simp
@[simp] theorem State.failActive_lastB (s : State) (o : EndOutcome) : (s.failActive o).lastB = s.lastB := by
  unfold State.failActive; split
  · rfl
  · split <;> simp
@[simp] theorem State.failActive_addrHigh (s : State) (o : EndOutcome) : (s.failActive o).addrHigh = s.addrHigh := by
  unfold State.failActive; split
  · rfl
  · split <;> simp
@[simp] theorem State.failActive_power (s : State) (o : EndOutcome) : (s.failActive o).power = s.power := by
  unfold State.failActive; split
  · rfl
  · split <;> simp
@[simp] theorem State.failActive_startupTimer (s : State) (o : EndOutcome) : (s.failActive o).startupTimer = s.startupTimer := by
  unfold State.failActive; split
  · rfl
  · split <;> simp
@[simp] theorem State.failActive_startups (s : State) (o : EndOutcome) : (s.failActive o).startups = s.startups := by
  unfold State.failActive; split
  · rfl
  · split <;> simp
@[simp] theorem State.failActive_pending (s : State) (o : EndOutcome) : (s.failActive o).pending = s.pending := by
  unfold State.failActive; split
  · rfl
  · split <;> simp

end Sys2Proof.Machine
end

