-- ==== Sys2Proof/Laws/Frames.lean ====
section
/-! SUPPORT. What the line side and the print side at work leave alone: the keyboard, the settings, the ports, the power
state and the queue of waiting commands. One lemma per operation over `State.still`, then one per field for `settle`. -/

namespace Sys2Proof.Machine

open Sys2Proof

/-- What no work of the scheduler or of the arbiter touches. -/
def State.still (s : State) :
    Keyboard × Settings × PortASelect × List Byte × Bool × Power × Timer × Nat × List Instr :=
  (s.kbd, s.settings, s.portA, s.lastB, s.addrHigh, s.power, s.startupTimer, s.startups, s.pending)

/-- `still` is decided field by field. -/
theorem State.still_eq {s t : State} (hk : s.kbd = t.kbd) (hs : s.settings = t.settings) (ha : s.portA = t.portA)
    (hb : s.lastB = t.lastB) (hr : s.addrHigh = t.addrHigh) (hp : s.power = t.power)
    (ht : s.startupTimer = t.startupTimer) (hn : s.startups = t.startups) (hq : s.pending = t.pending) :
    s.still = t.still := by
  simp [State.still, *]

/-! ## The print side -/

@[simp] theorem State.chainRequest_still (s : State) (h : SlotId) (k : Kind) (e : List SlotState) (n : SlotState)
    (o : Option EndOutcome) : (s.chainRequest h k e n o).still = s.still := by simp [State.still]

@[simp] theorem State.setAutoJob_still (s : State) (i : SlotId) (a : AutoJob) : (s.setAutoJob i a).still = s.still :=
  rfl

@[simp] theorem State.takeLine_still (s : State) (l : TextLine) : (s.takeLine l).still = s.still := by
  simp [State.still]

@[simp] theorem State.handLine_still (s : State) (l : TextLine) : (s.handLine l).still = s.still := by
  simp [State.handLine]

@[simp] theorem State.endLiveUnit_still (s : State) : s.endLiveUnit.still = s.still := by
  simp [State.endLiveUnit, State.still]

@[simp] theorem State.takeLive_still (s : State) (src : LiveSource) : (s.takeLive src).still = s.still := by
  cases src <;> simp only [State.takeLive] <;> split <;> simp [State.still, State.handLine, State.endLiveUnit]

@[simp] theorem State.serveFeed_still (s : State) : s.serveFeed.still = s.still := by
  simp [State.serveFeed, State.still, State.handLine]

@[simp] theorem State.endJob_still (s : State) : s.endJob.still = s.still := by simp [State.endJob, State.still]

@[simp] theorem State.completeJob_still (s : State) (j : Job) : (s.completeJob j).still = s.still := by
  simp only [State.completeJob, State.endJob_still]; split <;> simp

@[simp] theorem State.cutJob_still (s : State) (j : Job) : (s.cutJob j).still = s.still := by
  simp only [State.cutJob, State.endJob_still]; split <;> simp

@[simp] theorem State.beginJob_still (s : State) (j : Job) : (s.beginJob j).still = s.still := by
  simp only [State.beginJob, State.still]; split <;> simp

@[simp] theorem State.startJob_still (s : State) (j : Job) : (s.startJob j).still = s.still := by
  simp only [State.startJob]; split
  · rfl
  · simp

theorem State.chooseUnit_still {s t : State} (h : s.chooseUnit = some t) : t.still = s.still := by
  simp only [State.chooseUnit] at h
  split at h
  · cases h; simp
  · cases h; simp
  · split at h <;> cases h <;> simp
  · cases h

/-- What the arbiter does at a selection point or a text-line boundary leaves `still` alone. -/
theorem State.printOnce_still {s t : State} (h : s.printOnce = some t) : t.still = s.still := by
  simp only [State.printOnce] at h
  split at h
  · cases h
  split at h
  · split at h
    · cases h; simp
    split at h
    · split at h
      · split at h <;> cases h; rfl
      split at h <;> cases h
      · simp
      · rfl
    · exact chooseUnit_still h
  · cases h; simp
  · split at h <;> cases h
    · simp; rfl
    · simp
  · split at h
    · cases h; simp
    split at h <;> cases h
    · simp
    · simp; rfl

@[simp] theorem State.printLoop_still (s : State) (n : Nat) : (s.printLoop n).still = s.still := by
  induction n generalizing s with
  | zero => rfl
  | succ n ih =>
    simp only [State.printLoop]
    split
    · rfl
    · rw [ih, printOnce_still ‹_›]

@[simp] theorem State.servePrint_still (s : State) : s.servePrint.still = s.still := s.printLoop_still 100

@[simp] theorem State.lineComplete_still (s : State) : s.lineComplete.still = s.still := by
  simp only [State.lineComplete]
  split
  · rfl
  · simp
  · split <;> simp
  · split
    · simp; rfl
    split
    · simp; rfl
    · rfl

/-! ## The line side -/

@[simp] theorem State.endTurn_still (s : State) : s.endTurn.still = s.still := rfl

@[simp] theorem State.leaveLine_still (s : State) (h : SlotId) : (s.leaveLine h).still = s.still := by
  simp [State.leaveLine, State.clearingDropChain, State.still]

@[simp] theorem State.goIdle_still (s : State) (r : LineReason) : (s.goIdle r).still = s.still := by simp [State.still]

@[simp] theorem State.failActive_still (s : State) (o : EndOutcome) : (s.failActive o).still = s.still := by
  simp [State.still]

@[simp] theorem State.enterPrintQueue_still (s : State) (k : JobKind) (i : SlotId) :
    (s.enterPrintQueue k i).still = s.still := by simp [State.still]

@[simp] theorem State.completeChain_still (s : State) (h : SlotId) : (s.completeChain h).still = s.still := by
  simp only [State.completeChain, leaveLine_still]; split
  · split <;> simp
  · simp

@[simp] theorem State.withdrawActive_still (s : State) (h : SlotId) : (s.withdrawActive h).still = s.still := by
  simp [State.withdrawActive]

@[simp] theorem State.failReply_still (s : State) (h : SlotId) (o : EndOutcome) :
    (s.failReply h o).still = s.still := by simp [State.failReply]

@[simp] theorem State.acceptRecord_still (s : State) (ct : ChainTurn) : (s.acceptRecord ct).still = s.still := by
  simp only [State.acceptRecord]; split
  · rfl
  · simp

@[simp] theorem State.chooseAnswerback_still (s : State) (x : Option ChainTurn) :
    (s.chooseAnswerback x).still = s.still := by simp only [State.chooseAnswerback]; split <;> rfl

@[simp] theorem State.beginChain_still (s : State) (q : QueuedChain) : (s.beginChain q).still = s.still := by
  have h : ∀ (b : Bool) (t : State), t.still = s.still → (if b then t.completeChain q.head else t).still = s.still := by
    intro b t ht
    split
    · simpa using ht
    · exact ht
  exact h _ _ (by simp [State.still])

@[simp] theorem State.startChain_still (s : State) (q : QueuedChain) : (s.startChain q).still = s.still := by
  simp only [State.startChain]; split
  · rfl
  · simp

@[simp] theorem State.handCharacter_still (s : State) (b : Byte) (h : Handed) :
    (s.handCharacter b h).still = s.still := rfl

theorem State.chooseTurn_still {s t : State} (h : s.chooseTurn = some t) : t.still = s.still := by
  simp only [State.chooseTurn] at h
  split at h
  · cases h; simp
  split at h
  · cases h
  split at h
  · cases h
  · cases h; simp
  · cases h; rfl
  · split at h <;> cases h
    · rfl
    · simp

/-- Whatever a step of the boundary answers leaves `still` alone. -/
def LineStep.keepsStill (x : LineStep) (s : State) : Prop :=
  match x with
  | .wait => True
  | .handed t => t.still = s.still
  | .again t => t.still = s.still

theorem State.chainStep_still (s : State) (ct : ChainTurn) : (s.chainStep ct).keepsStill s := by
  simp only [State.chainStep]
  split
  · split
    · split <;> simp [LineStep.keepsStill] <;> rfl
    · trivial
  · split
    · trivial
    split
    · simp [LineStep.keepsStill]
    split
    · rfl
    · trivial
  · split
    · split
      · rfl
      · trivial
    · trivial
  · trivial

theorem State.withdrawalStep_still (s : State) (ct : ChainTurn) : (s.withdrawalStep ct).keepsStill s := by
  simp only [State.withdrawalStep]
  split
  · split
    · rfl
    · trivial
  · split
    · simp [LineStep.keepsStill]
    · trivial

theorem State.turnStep_still (s : State) (r : Bool) : (s.turnStep r).keepsStill s := by
  simp only [State.turnStep]
  split
  · split
    · trivial
    split
    · trivial
    · exact chooseTurn_still ‹_›
  · split
    · trivial
    · rfl
  · split
    · rfl
    · trivial
  · split
    · trivial
    split
    · rfl
    · rfl
  · split
    · trivial
    split
    · exact s.withdrawalStep_still _
    · exact s.chainStep_still _

/-- One step of a character boundary leaves `still` alone. -/
theorem State.lineOnce_still (s : State) (r : Bool) : (s.lineOnce r).keepsStill s := by
  simp only [State.lineOnce]
  split
  · trivial
  split
  · simp [LineStep.keepsStill]
  split
  · rfl
  split
  · split
    · rfl
    · rfl
    · exact s.turnStep_still r
  · exact s.turnStep_still r

@[simp] theorem State.lineLoop_still (s : State) (r : Bool) (n : Nat) : (s.lineLoop r n).still = s.still := by
  induction n generalizing s r with
  | zero => rfl
  | succ n ih =>
    have h := s.lineOnce_still r
    simp only [State.lineLoop]
    split
    · rfl
    · next t _ =>
      have h : t.still = s.still := by simpa [*, LineStep.keepsStill] using h
      split
      · rw [ih, h]
      · exact h
    · rw [ih]; simpa [*, LineStep.keepsStill] using h

@[simp] theorem State.settle_still (s : State) : s.settle.still = s.still := by
  simp [State.settle, State.serveLine]

@[simp] theorem State.settleTurn_still (s : State) : s.settleTurn.still = s.still := by
  simp [State.settleTurn, State.serveLine, State.serveTurn]

@[simp] theorem State.settleAfter_still (b s : State) : (s.settleAfter b).still = b.still := by
  simp only [State.settleAfter]; split <;> simp

/-! ## Settling, field by field -/

@[simp] theorem State.settle_kbd (s : State) : s.settle.kbd = s.kbd := congrArg (·.1) s.settle_still
@[simp] theorem State.settle_settings (s : State) : s.settle.settings = s.settings := congrArg (·.2.1) s.settle_still
@[simp] theorem State.settle_portA (s : State) : s.settle.portA = s.portA := congrArg (·.2.2.1) s.settle_still
@[simp] theorem State.settle_lastB (s : State) : s.settle.lastB = s.lastB := congrArg (·.2.2.2.1) s.settle_still
@[simp] theorem State.settle_addrHigh (s : State) : s.settle.addrHigh = s.addrHigh :=
  congrArg (·.2.2.2.2.1) s.settle_still
@[simp] theorem State.settle_power (s : State) : s.settle.power = s.power := congrArg (·.2.2.2.2.2.1) s.settle_still
@[simp] theorem State.settle_pending (s : State) : s.settle.pending = s.pending :=
  congrArg (·.2.2.2.2.2.2.2.2) s.settle_still

@[simp] theorem State.settleTurn_kbd (s : State) : s.settleTurn.kbd = s.kbd := congrArg (·.1) s.settleTurn_still
@[simp] theorem State.settleTurn_pending (s : State) : s.settleTurn.pending = s.pending :=
  congrArg (·.2.2.2.2.2.2.2.2) s.settleTurn_still

@[simp] theorem State.settleAfter_kbd (b s : State) : (s.settleAfter b).kbd = b.kbd :=
  congrArg (·.1) (State.settleAfter_still b s)
@[simp] theorem State.settleAfter_settings (b s : State) : (s.settleAfter b).settings = b.settings :=
  congrArg (·.2.1) (State.settleAfter_still b s)
@[simp] theorem State.settleAfter_power (b s : State) : (s.settleAfter b).power = b.power :=
  congrArg (·.2.2.2.2.2.1) (State.settleAfter_still b s)
@[simp] theorem State.settleAfter_pending (b s : State) : (s.settleAfter b).pending = b.pending :=
  congrArg (·.2.2.2.2.2.2.2.2) (State.settleAfter_still b s)

/-! ## Where nothing is to be served -/

/-- The scheduler does nothing outside ONLINE and CLEARING (section 5.2). -/
theorem State.serveLine_off {s : State} (h : s.serving = false) : s.serveLine = s := by
  simp [State.serveLine, State.lineLoop, State.lineOnce, h]

theorem State.serveTurn_off {s : State} (h : s.serving = false) : s.serveTurn = s := by
  simp [State.serveTurn, State.lineLoop, State.lineOnce, h]

/-- The arbiter does nothing while the row engine takes no line (R133). -/
theorem State.servePrint_off {s : State} (h : s.engineTakes = false) : s.servePrint = s := by
  simp [State.servePrint, State.printLoop, State.printOnce, h]

/-- With the line down and the row engine busy, settling changes nothing. -/
theorem State.settle_off {s : State} (hl : s.serving = false) (hp : s.engineTakes = false) : s.settle = s := by
  simp [State.settle, serveLine_off hl, servePrint_off hp]

theorem State.settleTurn_off {s : State} (hl : s.serving = false) (hp : s.engineTakes = false) :
    s.settleTurn = s := by
  simp [State.settleTurn, serveLine_off hl, servePrint_off hp, serveTurn_off hl]

theorem State.settleAfter_off {b s : State} (hl : b.serving = false) (hp : b.engineTakes = false) :
    s.settleAfter b = b := by
  simp [State.settleAfter, settle_off hl hp, settleTurn_off hl hp]

end Sys2Proof.Machine
end

