-- ==== Sys2Proof/Laws/Ports.lean ====
section
/-! SUPPORT. What a port command comes to: the port that serves it, the slot it names, and the accessors of slots and of
per-port values after an update. -/

namespace Sys2Proof.Machine

open Sys2Proof

/-! ## Per-port values -/

@[simp] theorem PerPort.get_set {α : Type} (x : PerPort α) (p : Port) (v : α) : (x.set p v).get p = v := by
  cases p <;> rfl

@[simp] theorem PerPort.get_set_other {α : Type} (x : PerPort α) (p : Port) (v : α) :
    (x.set p v).get (otherPort p) = x.get (otherPort p) := by
  cases p <;> rfl

theorem otherPort_ne (p : Port) : otherPort p ≠ p := by cases p <;> decide

/-! ## Slots -/

theorem State.setSlot_slot (s : State) (i j : SlotId) (x : Slot) :
    (s.setSlot i x).slot j = if i = j then x else s.slot j := by
  simp only [State.slot, State.setSlot, Fin.getElem_fin, Vector.getElem_set, Fin.ext_iff]

@[simp] theorem State.setSlot_slot_self (s : State) (i : SlotId) (x : Slot) : (s.setSlot i x).slot i = x := by
  simp [State.setSlot_slot]

theorem State.mapSlots_slot (s : State) (f : SlotId → Slot → Slot) (i : SlotId) :
    (s.mapSlots f).slot i = f i (s.slot i) := by
  simp [State.slot, State.mapSlots]

theorem State.mapChain_slot (s : State) (h i : SlotId) (f : Slot → Slot) :
    (s.mapChain h f).slot i = if (s.slot i).chainHead = some h then f (s.slot i) else s.slot i := by
  simp [State.mapChain, State.mapSlots_slot]

@[simp] theorem State.attach_slot (s : State) (p : Port) (i : SlotId) : (s.attach p).slot i = s.slot i := rfl

@[simp] theorem State.raise_slot (s : State) (p : Port) (d : EventDetail) (i : SlotId) :
    (s.raise p d).slot i = s.slot i := rfl

@[simp] theorem State.attach_owned (s : State) (p q : Port) : (s.attach p).owned q = s.owned q := rfl

/-! ## Commands -/

theorem State.servePort_serves {s : State} {p : Port} (h : s.portServes p = true) (f : State → State × Response) :
    s.servePort p f = (f (s.attach p)).1.respond p (f (s.attach p)).2 := by
  simp [State.servePort, State.execute, h]

theorem State.servePort_ignores {s : State} {p : Port} (h : s.portServes p = false) (f : State → State × Response) :
    s.servePort p f = s.ignoreTransaction p := by
  simp [State.servePort, h]

/-- A slot number in a byte, as the argument names it. -/
theorem slotArg_of {b : Byte} {i : SlotId} (h : b.toNat = i.val) : slotArg b = some i := by
  unfold slotArg
  split
  · exact congrArg some (Fin.ext h)
  · omega

/-- The tests 1 to 3 of R5 pass for a slot the port owns. -/
theorem onSlot_owns {s : State} {p : Port} {b : Byte} {i : SlotId} (h : s.owns p b i) (any : Bool)
    (f : SlotId → State × Response) : onSlot (s.attach p) p b any f = f i := by
  obtain ⟨hb, hs, ho⟩ := h
  simp [onSlot, slotTest, slotArg_of hb, hs, ho]

/-- A command refused, or taken with no data, answers and changes nothing else (R190). -/
theorem State.refuse_respond (s : State) (p : Port) (r : Result) :
    (refuse r (s.attach p)).1.respond p (refuse r (s.attach p)).2 = s.answeredOnly p r := rfl

/-! ## Chains -/

/-- A request is taken exactly when the head is its own chain head, of the path's kind, in an expected state (R24, R25).
-/
theorem State.requestFinds_iff (s : State) (h : SlotId) (k : Kind) (e : List SlotState) :
    s.requestFinds h k e = true ↔
      (s.slot h).chainHead = some h ∧ (s.slot h).kind = some k ∧ (s.slot h).state ∈ e := by
  simp [State.requestFinds, and_assoc]

/-- A slot after a request on a chain: every member moved, every other slot as it was (R24). -/
theorem State.chainRequest_slot {s : State} {h : SlotId} {k : Kind} {e : List SlotState}
    (found : s.requestFinds h k e = true) (n : SlotState) (o : Option EndOutcome) (i : SlotId) :
    (s.chainRequest h k e n o).slot i =
      if (s.slot i).chainHead = some h then { s.slot i with state := n, outcome := o, hold := false }
      else s.slot i := by
  have hm := s.mapChain_slot h i fun x => { x with state := n, outcome := o, hold := false }
  rw [← hm]
  simp only [State.chainRequest, found, if_true]
  cases o
  · rfl
  · simp only [State.slot, State.raiseEnded_slots]

/-- A discarded request changes nothing (R25). -/
theorem State.chainRequest_discarded {s : State} {h : SlotId} {k : Kind} {e : List SlotState}
    (lost : s.requestFinds h k e = false) (n : SlotState) (o : Option EndOutcome) :
    s.chainRequest h k e n o = s := by
  simp [State.chainRequest, lost]

end Sys2Proof.Machine
end

