-- ==== Sys2Proof/Tests/Slice0.lean ====
section
/-! SUPPORT. Tests: the checks of WellFormed, small facts with their values taken from spec/, and a concrete state that
meets the hypotheses of each statement of the obligations, clause by clause. -/

namespace Sys2Proof.Tests

open Sys2Proof Sys2Proof.Machine

set_option maxRecDepth 8000
set_option exponentiation.threshold 700

/-! ## Small states -/

/-- A slot of a kind that port A owns, in a state, outside every chain. -/
def single (k : Kind) (st : SlotState) : Slot := { Slot.claimed k .a with state := st }

/-- Slot 1 as the only member of a posted chain of port A. -/
def posted (k : Kind) (st : SlotState) : Slot := { single k st with chainHead := some 1 }

/-- The reset state with slot 1 replaced. -/
def withSlot (x : Slot) : State := State.reset.setSlot 1 x

/-- The reset state with slot 23 replaced. -/
def withLast (x : Slot) : State := State.reset.setSlot 23 x

/-- A chain turn on slot 1. -/
def turnOn (ph : ChainPhase) : ChainTurn := ⟨1, 1, 1, ph⟩

/-- ONLINE with the modulator in MARK_IDLE and the carrier PRESENT. -/
def online : State :=
  { State.reset with
    sup.state := .online
    modem.modulator := .markIdle
    modem.carrier := .present
    modem.silenceTimer := some 20000
    modem.sampler := ⟨.hunt, 0, [], 0⟩ }

/-- ONLINE with a chain turn on slot 1, ACTIVE. -/
def onTurn (ph : ChainPhase) : State :=
  { online.setSlot 1 { posted .send .active with framing := .record } with sched.turn := .chain (turnOn ph) }

/-- A fired row with two groups, in a phase of the group of an index. -/
def firing (index : Nat) (ph : FirePhase) : Firing := ⟨3 ||| 1 <<< 40, 1, 1000, 750, 40, [1, 2], index, ph⟩

/-- The row engine in ROW, with the firing. -/
def inRow (f : Firing) : State :=
  { State.reset with engine.state := .row, engine.line := some .blank, engine.firing := some f }

/-- The state a command leaves. -/
def after (i : Instr) (s : State) : State :=
  match exec i s with
  | .next t => t
  | _ => s

/-- The state a step leaves when no command waits. -/
def ticked (s : State) : State :=
  match step s with
  | .next t => t
  | _ => s

/-! ## WellFormed refuses what cannot reach the part -/

theorem test_wellFormed_writeText_length : (Instr.writeText .a 1 0 2 1 [0x41]).wellFormed = false := by decide

theorem test_wellFormed_writeText_badCount : (Instr.writeText .a 1 0 33 1 [0x41]).wellFormed = false := by decide

theorem test_wellFormed_selectShort : (Instr.portASelectShort (some 0x62)).wellFormed = false := by decide

theorem test_wellFormed_unknownCommand : (Instr.portAUnknownCommand 0x10).wellFormed = false := by decide

theorem test_wellFormed_zeroCrossing : (Instr.zeroCrossing 4096).wellFormed = false := by decide

theorem test_wellFormed_accepts :
    (Instr.writeText .a 1 0 2 1 [0x41, 0x42]).wellFormed = true
      ∧ (Instr.portASelectShort (some 0x10)).wellFormed = true
      ∧ (Instr.portAUnknownCommand 0x7E).wellFormed = true ∧ (Instr.zeroCrossing 4095).wellFormed = true := by
  decide

/-! ## Facts the manual states, with its values -/

/-- R43's example: with 7 data bits, EVEN parity and 1 stop bit F is 160, and a character is handed at position 152. -/
theorem test_frame_length_example :
    frameLength State.reset.settings = 160 ∧ stopPosition State.reset.settings = 152 := by decide

/-- R28's increments of the two bands. -/
theorem test_tone_increments :
    [increment false .mark, increment false .space, increment true .mark, increment true .space]
      = [2417, 2007, 4588, 4178] := by decide

/-- The worked check values of section 4.4: 'k' for "PCQTY 40", ':' for "PNOK", '0' for "QCITEM 7". -/
theorem test_check_values :
    checkOf (xorBytes [0x50, 0x43, 0x51, 0x54, 0x59, 0x20, 0x34, 0x30]) = 0x6B
      ∧ checkOf (xorBytes [0x50, 0x4E, 0x4F, 0x4B]) = 0x3A
      ∧ checkOf (xorBytes [0x51, 0x43, 0x49, 0x54, 0x45, 0x4D, 0x20, 0x37]) = 0x30 := by decide

/-- Worked case 1 of chapter 8: 4900 mV, 35 °C, density 8. -/
theorem test_strobe_case_1 :
    strobeFull 4900 35 8 = 1229 ∧ strobeRepeat 1229 = 921 ∧ dotLimit 4900 = 75 := by decide

/-- Worked case 1 of chapter 8: with Nmax 75, block 8 opens group 2 behind the 70 dots of blocks 0, 1, 2, 5 and 6. -/
theorem test_group_case_1 :
    groupScan 75 [10, 20, 30, 0, 0, 5, 5, 0, 10, 10, 0, 0, 0, 0, 10, 0] 0 0 0 = [0x0067, 0x4300] := by decide

/-- R6: the lowest-numbered FREE slot, HELD with priority 4, and the answer OK with its number. -/
theorem test_claim :
    (let t := after (.claim .b 0) State.reset
     (t.slot 1).state = .held ∧ (t.slot 1).priority = 4 ∧ (t.slot 1).owner = some .b ∧ t.lastB = [0x00, 0x01]) := by
  decide

/-- R5: a slot number above 23 is BAD_ARG, a FREE slot WRONG_STATE, another's slot NOT_OWNER. -/
theorem test_slot_refusals :
    (after (.hold .b 24) State.reset).lastB = [0x81] ∧ (after (.hold .b 23) State.reset).lastB = [0x85]
      ∧ (after (.hold .b 1) (withSlot (single .send .held))).lastB = [0x84] := by decide

/-- R12: text past position 79 is dropped with OK_CLAMPED, and the length is at most 80. -/
theorem test_writeText_clamped :
    (let t := after (.writeText .a 1 79 2 0 [0x41, 0x42]) (withSlot (single .send .held))
     (t.slot 1).length = 80 ∧ (t.slot 1).text[79] = 0x41 ∧ t.portA = .answered [0x01]) := by decide

/-- R13: READ TEXT answers the bytes below the length alone. -/
theorem test_readText :
    (after (.readText .a 1 0 32) (withSlot { single .send .held with length := 2 })).portA
      = .answered [0x00, 0x02, 0x20, 0x20] := by decide

/-- R11: a priority above 7 is stored as 7 with OK_CLAMPED. -/
theorem test_setAttributes_clamped :
    (let t := after (.setAttributes .a 1 9 0xFF 1 0x50 0x43 1) (withSlot (single .send .held))
     (t.slot 1).priority = 7 ∧ (t.slot 1).framing = .record ∧ (t.slot 1).copy = true ∧ t.portA = .answered [0x01]) := by
  decide

/-- R16: POST enters the chain in the send queue in QUEUED with its own head. -/
theorem test_post :
    (let t := after (.post .a 1) (withSlot (single .send .held))
     (t.slot 1).state = .queued ∧ (t.slot 1).chainHead = some 1 ∧ t.sched.sendQueue = [⟨1, 1⟩]) := by decide

/-- R16: a chain of two that loops is BAD_CHAIN. -/
theorem test_post_loop :
    (after (.post .a 1) (withSlot { single .send .held with successor := some 1 })).portA = .answered [0x88] := by decide

/-- R49: CONNECT(ANSWER) turns the carrier on and starts the connect timer at 30 s. -/
theorem test_connect_answer :
    (let t := after (.connect .b 1) State.reset
     t.sup.state = .answering ∧ t.sup.connectTimer = some 30000000 ∧ t.modem.modulator = .markIdle) := by decide

/-- R33, R35: two half-periods of the high mark tone bring QUALIFYING during a call. -/
theorem test_carrier_qualifies :
    (let t := after (.zeroCrossing 223) (after (.zeroCrossing 223) (after (.connect .b 0) State.reset))
     t.modem.carrier = .qualifying ∧ t.modem.qualifyTimer = some 150000) := by decide

/-- R34: the hysteresis of the high band turns to space at 476 and not at 475. -/
theorem test_level_hysteresis :
    classify true .mark 475 = .mark ∧ classify true .mark 476 = .space
      ∧ classify true .space 460 = .space ∧ classify true .space 459 = .mark := by decide

/-- R64, R65: XOFF is acted on and reaches no FIFO. -/
theorem test_xoff :
    (let t := after (.characterReceived 0x13 false false) online
     t.sched.remoteFlow = .xoff ∧ t.parser.fifo = [] ∧ t.parser.counters.received = 1) := by decide

/-- R66: an open text byte enters the FIFO; a flawed one keeps its mark. -/
theorem test_openText :
    (after (.characterReceived 0x41 true false) online).parser.fifo = [⟨0x41, true⟩] := by decide

/-- R104: BREAK outside ONLINE and CLEARING is LINE_IDLE; in ONLINE it is handed at once. -/
theorem test_sendBreak :
    (after (.sendBreak .b) State.reset).lastB = [0x8A]
      ∧ (after (.sendBreak .b) online).modem.modulator = .breaking none := by decide

/-- R107, R108: a line mark with nothing before it completes at once; READ DRAIN shows COMPLETE. -/
theorem test_drainMark :
    (after (.readDrain .b) (after (.drainMark .b 0) State.reset)).lastB = [0x00, 0x02] := by decide

/-- R124: the other port's TAKE FOCUS is FOCUS_HELD and sets focus wanted. -/
theorem test_takeFocus :
    (let t := after (.takeFocus .b) (after (.takeFocus .a) State.reset)
     t.kbd.focus = some .a ∧ t.kbd.wanted = some .b ∧ t.lastB = [0x8B]) := by decide

/-- R116: CTRL gives a letter its low five bits, CAPS its upper case. -/
theorem test_charCode :
    charCode ⟨false, true, false⟩ 0x61 0x41 = 0x01 ∧ charCode ⟨false, false, true⟩ 0x61 0x41 = 0x41
      ∧ charCode ⟨false, false, true⟩ 0x31 0x21 = 0x31 := by decide

/-- R111: a level is stable at the third observation that agrees. -/
theorem test_debounce :
    (Debounce.mk false 1).observe true = ⟨false, 2⟩ ∧ (Debounce.mk false 2).observe true = ⟨true, 0⟩ := by decide

/-- R144: twelve feeds are clamped to nine with OK_CLAMPED. -/
theorem test_feed_clamped :
    (let t := after (.feed .b 12) State.reset
     t.lastB = [0x01] ∧ t.arb.feeds = 8 ∧ t.arb.unit = .feed ∧ t.engine.state = .held) := by decide

/-- R141: two glyphs overstruck in one cell, then a CR. -/
theorem test_compose_overstrike :
    (let c := compose [.byte 0x41 false, .byte 0x08 false, .byte 0x5F false, .byte 0x0D false]
     c.ending = .cr ∧ c.used = 4 ∧ c.buffer.cells[0] = .two (.code 0x41) (.code 0x5F)) := by decide

/-- R152: a row below 4200 mV is held, SUPPLY set, with one PRINT_STALL to each port. -/
theorem test_row_held :
    (let t := { State.reset with
        engine.batteryJudged := true, engine.headJudged := true, monitor.v := 4199, monitor.th := 25 }.checkRow
     t.engine.state = .held ∧ t.engine.supply = true ∧ t.events.a.latched = 0x04) := by decide

/-- R161: a sample that reads OUT with no line present sets PAPER at once. -/
theorem test_paper_out : (after (.paperSample true) State.reset).engine.paper = true := by decide

/-- R167, R169: a measurement of 4599 mV is recorded as 4590 and sets SUPPLY_LOW. -/
theorem test_battery :
    (let t := after (.batteryTimerExpired 4599) State.reset
     t.monitor.v = 4590 ∧ t.monitor.supplyLow = true ∧ t.monitor.batteryTimer = some 10000) := by decide

/-- R168: thirty and a half degrees are recorded as 31. -/
theorem test_head : (after (.headTimerExpired 30500) State.reset).monitor.th = 31 := by decide

/-- R172: a burst lasts 100 ms, and a second request merges with it. -/
theorem test_beep : State.reset.beep.monitor.burst = some 100000 ∧ State.reset.beep.beep = State.reset.beep := by decide

/-- R179: ACK EVENT of a source that is not pending is EMPTY. -/
theorem test_ackEvent_empty : (after (.ackEvent .b 7) State.reset).lastB = [0x02] := by decide

/-- R185, R178: an unknown byte on port B is answered UNKNOWN and raises PORT with the byte. -/
theorem test_portB_unknown :
    (let t := after (.portBWriteEnd ⟨0x2C, [0x7E]⟩) State.reset
     t.lastB = [0x80] ∧ (t.events.b.sources[7]).map (·.detail) = some (.port .unknown (some 0x7E))) := by decide

/-- R183: a write short of its arguments raises PORT with SHORT and the command byte. -/
theorem test_portB_short :
    ((after (.portBWriteEnd ⟨0x2C, [0x13, 0x03, 0x00]⟩) State.reset).events.b.sources[7]).map (·.detail)
      = some (.port .short (some 0x13)) := by decide

/-- R191: print_density 20 is stored as 15 with OK_CLAMPED. -/
theorem test_configure_clamped :
    (let t := after (.configure .b 15 20) State.reset
     t.settings.density = 15 ∧ t.lastB = [0x01]) := by decide

/-- R188: RESETN held and released, and the 2 ms over, leave the state after reset, when no select is under way. -/
theorem test_reset_pin :
    after .portASelectEnd (after .startupIgnoreEnd (after .resetnReleased (after .resetnAsserted State.reset)))
      = { State.reset with startups := 1 } := by decide

/-- R185: with ADDR low port B's address is 0x2C, and a write to 0x2D is none of its own; with ADDR high it is. -/
theorem test_portB_address :
    after (.portBWriteEnd ⟨0x2D, [0x7E]⟩) State.reset = State.reset
      ∧ (after (.portBWriteEnd ⟨0x2D, [0x7E]⟩) { State.reset with addrHigh := true }).lastB = [0x80] := by decide

/-- R183: READ ALERTS, one byte in, is answered EMPTY from the second byte on; R184: UNKNOWN behind an unknown byte. -/
theorem test_sdo :
    ((List.range 3).map ((after (.readAlerts .a) State.reset).sdo true 1)) = [some 0xFF, some 0x02, some 0xFF]
      ∧ (after (.portAUnknownCommand 0x7E) State.reset).sdo true 1 1 = some 0x80
      ∧ (after (.portAUnknownCommand 0x7E) State.reset).sdo false 1 1 = none := by decide

/-- R28, R30: at 300 bit/s the fourth line bit of a frame begins 10,000 µs after its first, and a sample that falls
just there takes its tone. -/
theorem test_sample_at_a_bit_boundary :
    (Modulator.character [.space, .mark, .mark, .space] 9999).levelAt 300 4 = .space
      ∧ (Modulator.character [.space, .mark, .mark, .space] 9999).levelAt 300 3 = .mark := by decide

/-- R31: the 250 ms of a break begin at its first space sample, here in the middle of a tick. -/
theorem test_break_from_its_first_sample :
    (ticked { online with modem.modulator := .breaking none, modem.sampleClock := 123 }).modem.modulator
        = .breaking (some 999998)
      ∧ (Modulator.breaking (some 1)).levelAt 300 1 = .mark := by decide

/-- LOOP, ONLINE, a quarter before a sample of the low mark tone that turns the sine negative. -/
def looping : State :=
  { online with modem.mode := .loop, modem.phase := 32000, modem.sampleClock := 124, modem.crossing := 422,
                modem.hPrev := 424 }

/-- R46: the sign change of a sample in LOOP is a half-period of the counter's value; the microphone is ignored. -/
theorem test_loop_crossing :
    (ticked looping).modem.hPrev = 423 ∧ (ticked looping).modem.crossing = 0
      ∧ after (.zeroCrossing 223) looping = looping := by decide

/-- R29, R32: a carrier-off is taken at the next sample, which puts the accumulator at 0 and cuts an element; until
then the modulator goes on. -/
theorem test_carrier_off_at_the_next_sample :
    (let s : State := { online with modem.modulator := .character [.space] 0, modem.phase := 77, modem.sampleClock := 120 }
     let t := s.goIdle .hungUp
     t.modem.modulator = .character [.space] 0 ∧ (ticked t).modem.modulator = .character [.space] 1
       ∧ (ticked t).modem.phase = 77 ∧ (ticked (ticked t)).modem.modulator = .off
       ∧ (ticked (ticked t)).modem.phase = 0 ∧ (ticked (ticked t)).modem.offDue = false) := by decide

/-- R47, R49: a CONNECT(ANSWER) in the wake of an end has its carrier on, and the next sample does not turn it off. -/
theorem test_carrier_on_behind_a_carrier_off :
    (let s := { online with modem.phase := 77, modem.sampleClock := 122 }.goIdle .hungUp
     let t := after (.connect .b 1) s
     s.modem.offDue = true ∧ t.modem.modulator = .markIdle ∧ t.modem.phase = 0 ∧ t.modem.offDue = false
       ∧ (ticked { t with modem.sampleClock := 124 }).modem.modulator = .markIdle) := by decide

/-- R90: the answerback turn lasts until its last byte is reported complete. -/
theorem test_answerback_ends_with_its_last_byte :
    (let s : State := { online with
        sched.turn := .answerback [] none, sched.handed := some .answerback, modem.modulator := .character [] 0 }
     s.serveLine = s ∧ (after .characterComplete s).sched.turn = .none) := by decide

/-- R87, R99: a chain complete at a boundary at which a reply is owed: the reply goes, and the next turn is chosen. -/
theorem test_choice_beside_a_reply :
    (let s : State := { onTurn (.record 5) with
        modem.modulator := .character [] 0, sched.handed := some .check, parser.replies := [.ack],
        sched.keyFifo := [⟨0x41, 2⟩] }
     (after .characterComplete s).sched.handed = some .reply ∧ (after .characterComplete s).sched.turn = .key 1) := by
  decide

/-- R142: the LF behind a CR is taken with it across the marks of empty members. -/
theorem test_lf_across_empty_members :
    (jobCompose [.byte 0x41 false, .byte 0x0D false, .fresh, .fresh, .byte 0x0A false, .byte 0x42 false] 0).used = 5 := by
  decide

/-! ## Witnesses: a state that meets the hypotheses of each statement, clause by clause -/

/-- Slot 1 named by its number. -/
theorem owns_one (x : Slot) (hs : x.state ≠ .free) (ho : x.owner = some .a) : (withSlot x).owns .a 1 1 :=
  ⟨rfl, by simpa [withSlot] using hs, by simpa [withSlot] using ho⟩

theorem witness_StepRunsTheFrontCommand :
    State.reset.pending = [] ∧ ({ State.reset with power := .held } : State).power = .held ∧ looping.pending = []
      ∧ looping.power ≠ .held ∧ looping.modem.mode = .loop ∧ looping.modem.sampleSign = true
      ∧ (ticked looping).modem.phase = 34417 ∧ (ticked looping).modem.sampleSign = false
      ∧ looping.modem.phase ≠ 0 ∧ looping.modem.phase ≠ 0x8000 ∧ online.modem.mode ≠ .loop ∧ online.power ≠ .held := by
  decide

theorem witness_ResetPin :
    State.reset.engine.state = .idle ∧ ({ State.reset with engine.state := .held } : State).engine.state = .held
      ∧ (inRow (firing 0 .phase1)).engine.state = .row
      ∧ ({ State.reset with engine.state := .blank } : State).engine.state = .blank := by decide

theorem witness_StepKeepsSlotZero :
    SlotZeroStands (withSlot (posted .send .queued)) ∧ ∃ t, step (withSlot (posted .send .queued)) = .next t :=
  ⟨⟨by decide, by decide, by decide, by decide, by decide⟩, _, rfl⟩

/-- A full FIFO at XOFF, a full reply queue and nine feeds. -/
def fullState : State :=
  { State.reset with
    parser.fifo := List.replicate 256 ⟨0x41, false⟩
    parser.localFlow := .xoff
    parser.replies := [.ack, .nak, .ack, .nak]
    arb.feeds := 9
    kbd.down := [0, 1, 2, 3] }

theorem witness_StepKeepsBuffersBounded : BuffersBounded fullState ∧ ∃ t, step fullState = .next t :=
  ⟨⟨by decide, by decide, by decide, by decide, by decide, by decide, by decide, by decide⟩, _, rfl⟩

/-- A set of strobes that names one block drives at most its 40 dots. -/
theorem groupDots_one (p : Dots) (g : BitVec 16) (b : Nat) (h : (List.range 16).filter g.getLsbD = [b]) :
    groupDots p g ≤ 40 := by
  simp only [groupDots, h, List.map_cons, List.map_nil, List.sum_cons, List.sum_nil, Nat.add_zero, blockCount]
  exact (List.length_filter_le _ _).trans (by simp)

/-- The first group of a row being fired. -/
def firstGroup : State := { inRow (firing 0 .phase1) with engine.strobes := 1 }

theorem witness_StepKeepsHeadSafe : HeadSafe firstGroup ∧ ∃ t, step firstGroup = .next t := by
  have one : ∀ f, firstGroup.engine.firing = some f → firing 0 .phase1 = f := fun f h => Option.some.inj h
  refine ⟨⟨fun h => absurd rfl h, fun h => (nomatch h), ?_, ?_, ?_, ?_⟩, _, rfl⟩
  · intro f h g hg
    obtain rfl := one f h
    simp only [firing, List.mem_cons, List.not_mem_nil, or_false] at hg
    obtain rfl | rfl := hg
    · exact groupDots_one _ _ 0 (by decide)
    · exact groupDots_one _ _ 1 (by decide)
  · intro f h
    obtain rfl := one f h
    exact groupDots_one _ _ 0 (by decide)
  · intro f h
    obtain rfl := one f h
    decide
  · intro f h
    obtain rfl := one f h
    decide

/-- Source 5 pending at port A with 255 occurrences. -/
def manyEvents : State :=
  { State.reset with events.a := { EventUnit.reset with
      sources := (Vector.replicate 8 none).set 5 (some ⟨.drained .line, 255⟩) } }

theorem countsInRange_of_all (u : EventUnit)
    (h : ∀ n : Fin 8, ((u.sources[n]).all fun o => decide (1 ≤ o.count) && decide (o.count ≤ 255)) = true) :
    u.countsInRange := by
  intro n o ho
  have := h n
  rw [ho] at this
  simpa using this

theorem witness_StepKeepsCountsInRange :
    manyEvents.events.a.countsInRange ∧ manyEvents.events.b.countsInRange ∧ manyEvents.parser.counters.bounded
      ∧ ∃ t, step manyEvents = .next t :=
  ⟨countsInRange_of_all _ (by decide), countsInRange_of_all _ (by decide), by unfold Counters.bounded; decide, _, rfl⟩

theorem witness_PortBWriteIsItsCommand :
    (PortCommand.writeText 1 0 1 1 [0x41]).wellFormed = true
      ∧ (PortCommand.writeText 1 0 32 0 (List.replicate 32 0x41)).wellFormed = true
      ∧ (PortCommand.writeText 1 0 33 0 []).wellFormed = true ∧ PortCommand.controllerReset.wellFormed = true := by decide

theorem witness_TransactionsThatExecuteNothing :
    State.reset.portServes .a = true ∧ State.reset.portServes .b = true ∧ State.reset.power ≠ .held
      ∧ takesArguments 0x10 = true ∧ takesArguments 0x61 = true ∧ knownCommand 0x1E = false
      ∧ knownCommand 0x64 = false ∧ (PortCommand.claim 0).wellFormed = true
      ∧ 0 < (PortCommand.claim 0).arguments.length
      ∧ 35 < (PortCommand.writeText 1 0 32 0 (List.replicate 32 0x41)).arguments.length
      ∧ (0x2D : BitVec 7) ≠ State.reset.busAddress ∧ ({ State.reset with power := .held } : State).power ≠ .serving
      ∧ (after (.readAlerts .a) State.reset).portA = .answered [0x02] ∧ 0 < 1 := by decide

theorem witness_PortsIgnoreBeforeService :
    ({ State.reset with power := .held } : State).power = .held
      ∧ ({ State.reset with power := .ignoring } : State).power = .ignoring
      ∧ ({ State.reset with portA := .ignored } : State).portA = .ignored := by decide

theorem witness_SlotCommandsTestTheSlot :
    State.reset.portServes .a = true ∧ slotNamed (.hold 24) = some 24 ∧ 23 < (24 : Byte).toNat
      ∧ slotNamed (.arm 23) = some 23 ∧ (State.reset.slot 23).state = .free
      ∧ slotNamed (.withdraw 0) = some 0 ∧ (State.reset.slot 0).state ≠ .free ∧ (State.reset.slot 0).owner ≠ some .a
      ∧ ¬((0 : SlotId) = 0 ∧ allowsAnyPort (.withdraw 0) = true)
      ∧ slotNamed (.readText 1 0 1) = some 1 ∧ ((withSlot (single .send .held)).slot 1).owner ≠ some .b := by decide

/-- A port that owns sixteen slots. -/
def sixteen : State := State.reset.mapSlots fun i x => if 1 ≤ i.val ∧ i.val ≤ 16 then single .send .held else x

/-- A store with no FREE slot. -/
def noneFree : State :=
  State.reset.mapSlots fun i x => if i = 0 then x else if i.val ≤ 15 then single .send .held
    else { single .send .held with owner := some .b }

theorem witness_ClaimGivesASlot :
    State.reset.portServes .a = true ∧ 4 ≤ (4 : Byte).toNat ∧ 16 ≤ sixteen.owned .a ∧ noneFree.owned .a < 16
      ∧ (∀ i : SlotId, i ≠ 0 → (noneFree.slot i).state ≠ .free)
      ∧ State.reset.owned .a < 16 ∧ (State.reset.slot 1).state = .free
      ∧ (∀ j : SlotId, j ≠ 0 → j < 1 → (State.reset.slot j).state ≠ .free) := by decide

theorem witness_ClaimGivesASlot_answerback :
    (State.reset.slot 0).owner = none ∧ State.reset.portServes .b = true ∧ (sixteen.slot 0).owner = none
      ∧ 16 ≤ sixteen.owned .a
      ∧ ((after (.claim .a 3) State.reset).slot 0).owner = some .a
      ∧ ((after (.claim .b 3) State.reset).slot 0).owner = some (otherPort .a) := by decide

/-- A chain of slots 1 and 23 in an end state. -/
def pair : State :=
  (withSlot { posted .send .failed with successor := some 23 }).setSlot 23 (posted .send .failed)

theorem witness_ReleaseFreesTheSlot :
    State.reset.portServes .a = true ∧ (after (.claim .a 3) State.reset).owns .a 0 0
      ∧ (withSlot (posted .send .copying)).owns .a 1 1 ∧ ((withSlot (posted .send .copying)).slot 1).state = .copying
      ∧ (withSlot { single .receive .pending with job := .printing }).owns .a 1 1
      ∧ (withSlot (single .send .held)).owns .a 1 1 ∧ pair.owns .a 1 1 ∧ (pair.slot 1).chains
      ∧ pair.chainFrom 1 (fun x => x.chainHead = (pair.slot 1).chainHead) (1 :: [23]) := by
  simp only [State.owns, State.chainFrom, State.linked]
  decide

theorem witness_SetAttributesStores :
    State.reset.portServes .a = true ∧ (withSlot (single .send .held)).owns .a 1 1
      ∧ (withSlot (single .print .held)).owns .a 1 1 ∧ (withSlot (single .receive .held)).owns .a 1 1
      ∧ (withSlot (posted .send .queued)).owns .a 1 1 ∧ ((withLast (single .send .held)).slot 23).state ≠ .free
      ∧ (23 : Byte).toNat = (23 : SlotId).val
      ∧ (0x41 : Byte).toNat ∈ List.range' 0x41 26 ∧ (0x5A : Byte).toNat ∈ List.range' 0x41 26
      ∧ (0x30 : Byte).toNat ∈ List.range' 0x30 10 ∧ (0x39 : Byte).toNat ∈ List.range' 0x30 10
      ∧ (7 : Byte).toNat ≤ 7 ∧ 2 ≤ (2 : Byte).toNat ∧ 24 ≤ (254 : Byte).toNat ∧ (254 : Byte).toNat ≤ 254
      ∧ (State.reset.slot 2).state = .free ∧ ((withSlot (single .send .held)).slot 1).kind ≠ some .receive := by
  simp only [State.owns]
  decide

theorem witness_WriteTextStores :
    State.reset.portServes .a = true ∧ 79 < (80 : Byte).toNat ∧ 32 < (33 : Byte).toNat ∧ (79 : Byte).toNat ≤ 79
      ∧ (32 : Byte).toNat ≤ 32 ∧ (1 : Byte).toNat ≤ 1 ∧ (List.replicate 32 (0x41 : Byte)).length = (32 : Byte).toNat
      ∧ (withSlot (single .send .held)).owns .a 1 1 ∧ ((withSlot (single .send .held)).slot 1).chains
      ∧ (withSlot { posted .send .queued with hold := true }).owns .a 1 1
      ∧ (after (.hold .a 0) (after (.claim .a 3) State.reset)).owns .a 0 0
      ∧ ((after (.hold .a 0) (after (.claim .a 3) State.reset)).slot 0).hold = true
      ∧ (after (.claim .a 3) State.reset).owns .a 0 0 ∧ (withSlot (posted .send .active)).owns .a 1 1
      ∧ (withSlot (single .receive .armed)).owns .a 1 1 ∧ (withSlot (posted .print .aborted)).owns .a 1 1 := by
  simp only [State.owns]
  decide

theorem witness_SlotReadsAnswerTheSlot :
    State.reset.portServes .a = true ∧ (State.reset.slot 0).state ≠ .free
      ∧ ((withLast { single .send .held with length := 80 }).slot 23).owner = some .a
      ∧ ((withLast (single .send .held)).slot 23).state ≠ .free ∧ (23 : Byte).toNat = (23 : SlotId).val
      ∧ (79 : Byte).toNat ≤ 79 ∧ 79 < (80 : Byte).toNat ∧ (32 : Byte).toNat ≤ 32 ∧ 32 < (33 : Byte).toNat := by decide

/-- Slot 1 QUEUED and held, waited on by the scheduler. -/
def heldSend : State :=
  { withSlot { posted .send .queued with hold := true } with
    sched.sendQueue := [⟨1, 1⟩], sched.holdWait := some ⟨.chain 1, some 1⟩ }

/-- Slot 1 QUEUED and held, waited on by the arbiter. -/
def heldPrint : State :=
  { withSlot { posted .print .queued with hold := true } with
    arb.queue := [⟨.print, 1, .a, 4, 1⟩], arb.holdWait := some ⟨1, some 1⟩ }

/-- Slot 0 owned by A and held, an answerback waiting on it. -/
def heldAnswer : State :=
  { after (.hold .a 0) (after (.claim .a 3) State.reset) with
    sched.holdWait := some ⟨.answerback, some 1⟩, sched.answerbackPending := true }

/-- A chain of slots 1 and 23, QUEUED, both held. -/
def heldPair : State :=
  (withSlot { posted .send .queued with hold := true, successor := some 23 }).setSlot 23
    { posted .send .queued with hold := true }

theorem witness_HoldAndUnhold :
    heldSend.portServes .a = true ∧ (withSlot (posted .send .active)).owns .a 1 1
      ∧ (withSlot (single .receive .pending)).owns .a 1 1 ∧ heldSend.owns .a 1 1 ∧ (heldSend.slot 1).chains
      ∧ heldPrint.owns .a 1 1 ∧ heldAnswer.owns .a 0 0 ∧ (heldAnswer.slot 0).state = .standing
      ∧ heldAnswer.sched.holdWait = some ⟨.answerback, some 1⟩
      ∧ ((heldSend.attach .a).setSlot 1 { heldSend.slot 1 with hold := false }).chainHeld 1 = false
      ∧ (heldSend.sched.sendQueue.find? fun q => q.head = 1) = some ⟨1, 1⟩
      ∧ ((heldPrint.attach .a).setSlot 1 { heldPrint.slot 1 with hold := false }).chainHeld 1 = false
      ∧ heldPair.owns .a 1 1
      ∧ ((heldPair.attach .a).setSlot 1 { heldPair.slot 1 with hold := false }).chainHeld 1 = true := by
  simp only [State.owns]
  decide

theorem witness_HoldAndUnhold_idle :
    (∀ w : LineHold, (withSlot { posted .send .queued with hold := true }).sched.holdWait ≠ some w)
      ∧ (∀ w : PrintHold, (withSlot { posted .print .queued with hold := true }).arb.holdWait ≠ some w) :=
  ⟨fun _ h => (nomatch h), fun _ h => (nomatch h)⟩

/-- The slots 1 to 8 as eight members in a row, HELD. -/
def eight : State :=
  State.reset.mapSlots fun i x =>
    if i = 8 then single .send .held
    else if 1 ≤ i.val ∧ i.val ≤ 7 then { single .send .held with successor := some (i + 1) } else x

theorem witness_PostEntersTheQueue :
    eight.portServes .a = true ∧ eight.owns .a 1 1 ∧ (eight.slot 1).chains
      ∧ (withSlot (single .receive .held)).owns .a 1 1 ∧ ¬((withSlot (single .receive .held)).slot 1).chains
      ∧ pair.owns .a 1 1 ∧ (pair.slot 1).state ∈ [SlotState.done, .aborted, .failed]
      ∧ (pair.slot 1).chainHead = some 1
      ∧ pair.chainFrom 1 (fun y => y.state = (pair.slot 1).state ∧ y.chainHead = some 1
          ∧ y.kind = (pair.slot 1).kind ∧ y.owner = some .a) [1, 23] := by
  simp only [State.owns, State.chainFrom, State.linked]
  decide

theorem witness_PostEntersTheQueue_eight :
    eight.chainFrom 1 (fun y => y.state = .held ∧ y.kind = (eight.slot 1).kind ∧ y.owner = some .a)
      [1, 2, 3, 4, 5, 6, 7, 8] := by
  refine ⟨rfl, ?_, by decide, by decide, by decide⟩
  simp only [State.linked]
  decide

/-- A slot whose successor link names itself: no walk from it ends. -/
theorem witness_PostEntersTheQueue_loop (test : Slot → Prop) :
    ∀ l, ¬(withSlot { single .send .held with successor := some 1 }).chainFrom 1 test l := by
  have one : ((withSlot { single .send .held with successor := some 1 }).slot 1).successor = some 1 := by decide
  rintro l ⟨hh, hl, hn, -, -⟩
  match l with
  | [] => cases hl
  | [i] =>
    cases hh
    rw [State.linked, one] at hl
    cases hl
  | i :: j :: m =>
    cases hh
    have := hl.1
    rw [one] at this
    cases this
    simp at hn

theorem witness_EditAndArm :
    pair.portServes .a = true ∧ pair.owns .a 1 1 ∧ (pair.slot 1).chains ∧ (pair.slot 1).chainHead = some 1
      ∧ (withSlot (single .receive .armed)).owns .a 1 1 ∧ (withSlot (single .receive .held)).owns .a 1 1
      ∧ (withSlot (single .send .held)).owns .a 1 1
      ∧ (withSlot { single .receive .pending with job := .printing }).owns .a 1 1
      ∧ (withSlot { single .receive .pending with job := .waiting }).owns .a 1 1
      ∧ (withSlot (single .receive .pending)).owns .a 1 1 := by
  simp only [State.owns]
  decide

theorem witness_WithdrawByState :
    heldSend.portServes .a = true ∧ (withSlot (single .receive .armed)).owns .a 1 1
      ∧ (withSlot (single .send .held)).owns .a 1 1 ∧ heldPair.owns .a 23 23
      ∧ (heldPair.slot 23).chainHead ≠ some 23 ∧ pair.owns .a 1 1 ∧ heldSend.owns .a 1 1
      ∧ (onTurn (.record 1)).owns .a 1 1 ∧ (onTurn (.record 1)).replyWait = none
      ∧ (onTurn .reply).replyWait = some (turnOn .reply) ∧ (turnOn .reply).head = 1
      ∧ (withSlot (posted .send .copying)).owns .a 1 1
      ∧ (withSlot (posted .send .copying)).jobQueued .copy 1 = false
      ∧ ({ withSlot (posted .send .copying) with arb.queue := [⟨.copy, 1, .a, 4, 1⟩] } : State).jobQueued .copy 1 = true
      ∧ heldPrint.owns .a 1 1 ∧ (withSlot (posted .print .active)).owns .a 1 1 := by
  simp only [State.owns]
  decide

theorem witness_RequestsMoveTheWholeChain :
    (pair.slot 1).chainHead = some 1 ∧ (pair.slot 1).kind = some .send
      ∧ (pair.slot 1).state ∈ [SlotState.failed] ∧ (pair.slot 1).owner = some .a
      ∧ ¬(State.reset.slot 1).chainHead = some 1 := by decide

theorem witness_ConnectStartsAnAttempt :
    State.reset.portServes .a = true ∧ 3 ≤ (3 : Byte).toNat ∧ (2 : Byte).toNat ≤ 2 ∧ online.sup.state ≠ .idle
      ∧ online.portServes .a = true ∧ State.reset.sup.state = .idle
      ∧ ((2 : Byte), Mode.loop, SupState.calling, LineReason.calling)
          ∈ [((0 : Byte), Mode.originate, SupState.calling, LineReason.calling), (1, .answer, .answering, .answering),
            (2, .loop, .calling, .calling)] := by decide

/-- CLEARING with a chain ACTIVE. -/
def clearing : State :=
  { onTurn (.record 1) with sup.state := .clearing, sup.clearing := some ⟨[1], []⟩, sup.clearingTimer := some 1 }

/-- A call that has not been answered. -/
def calling : State := { State.reset with sup.state := .calling, sup.connectTimer := some 1 }

theorem witness_HangUpByState :
    State.reset.portServes .a = true ∧ 2 ≤ (2 : Byte).toNat ∧ (1 : Byte).toNat ≤ 1 ∧ State.reset.sup.state = .idle
      ∧ online.portServes .a = true ∧ online.sup.state ≠ .idle ∧ calling.sup.state = .calling
      ∧ clearing.sup.state = .clearing ∧ (onTurn (.plain 0)).sup.state = .online
      ∧ (onTurn (.plain 0)).sched.turn ≠ .none ∧ online.sup.state = .online
      ∧ ¬(online.sched.sendQueue ≠ [] ∨ online.activeChain ≠ none ∨ online.sched.keyFifo ≠ []
        ∨ online.sched.turn ≠ .none ∨ online.modem.modulator ≠ .markIdle) := by decide

/-- A line mark and a print mark of port A that LINE RESET completes, both PENDING. -/
def marked : State :=
  { onTurn .reply with
    sched.marks := ⟨.pending 1, .pending 1⟩, sched.sendQueue := [⟨2, 2⟩], sched.keyFifo := [⟨0x41, 1⟩]
    arb.marks := ⟨.pending ⟨0, 1, 0, 0, false⟩, .pending ⟨0, 1, 1, 0, false⟩⟩ }

theorem witness_LineResetReturnsTheLineSide :
    (onTurn .reply).portServes .a = true ∧ State.reset.portServes .b = true ∧ marked.portServes .a = true
      ∧ (marked.sched.marks.get .a = .pending 1 ∧ ∀ x ∈ marked.sched.sendQueue, 1 < x.entry)
      ∧ (marked.arb.marks.get .a = .pending ⟨0, 1, 0, 0, false⟩ ∧ ∀ e ∈ marked.printEntries, 0 < e)
      ∧ State.reset.sched.marks.get .a = .none ∧ State.reset.arb.marks.get .a = .none
      ∧ (after (.lineReset .b) marked).sched.marks = ⟨.complete, .complete⟩
      ∧ (after (.lineReset .b) marked).arb.marks = ⟨.complete, .pending ⟨0, 0, 1, 0, false⟩⟩
      ∧ ((after (.lineReset .b) marked).events.a.sources[(5 : Fin 8)]).map (·.count) = some 2 := by
  decide

theorem witness_EntryToIdle :
    ({ State.reset with sched.marks := ⟨.pending 0, .complete⟩ } : State).sched.marks.get .a = .pending 0
      ∧ ∀ n, ({ State.reset with sched.marks := ⟨.pending 0, .complete⟩ } : State).sched.marks.get .b ≠ .pending n :=
  ⟨rfl, fun _ h => (nomatch h)⟩

/-- FADING in ONLINE, with the requalify and fade timers running. -/
def fading : State :=
  { onTurn (.record 1) with modem.carrier := .fading, modem.requalifyTimer := some 1, modem.fadeTimer := some 1 }

theorem witness_TimersEndTheConnection :
    calling.sup.state = .calling ∧ calling.sup.connectTimer ≠ none
      ∧ clearing.sup.state = .clearing ∧ clearing.sup.clearingTimer ≠ none
      ∧ fading.modem.carrier = .fading ∧ fading.modem.fadeTimer ≠ none ∧ fading.sup.state = .online
      ∧ ({ fading with sup.state := .idle } : State).sup.state ≠ .online
      ∧ ({ fading with sup.state := .idle } : State).sup.state ≠ .clearing
      ∧ State.reset.activeChain = none ∧ fading.activeChain = some (turnOn (.record 1)) := by decide

/-- QUALIFYING during a call. -/
def qualifying : State := { calling with modem.carrier := .qualifying, modem.qualifyTimer := some 1 }

theorem witness_CarrierTimers :
    qualifying.modem.carrier = .qualifying ∧ qualifying.modem.qualifyTimer ≠ none ∧ qualifying.sup.state = .calling
      ∧ ({ qualifying with sup.state := .online } : State).sup.state ≠ .calling
      ∧ ({ qualifying with sup.state := .online } : State).sup.state ≠ .answering
      ∧ online.modem.carrier = .present ∧ online.modem.silenceTimer ≠ none
      ∧ fading.modem.carrier = .fading ∧ fading.modem.requalifyTimer ≠ none ∧ qualifying.modem.modulator = .off
      ∧ (let s : State := { qualifying with modem.modulator := .markIdle, modem.offDue := true }
        s.modem.modulator ≠ .off ∧ s.modem.offDue = true) := by decide

/-- ONLINE in a mode, with the last half-period given. -/
def heard (m : Mode) (h : Nat) : State := { online with modem.mode := m, modem.hPrev := h }

/-- A half-period of 200 or 380 behind these makes the full periods at the edges of the two windows and of their
hysteresis. -/
theorem witness_HalfPeriods :
    online.modem.mode ≠ .loop ∧ looping.modem.mode = .loop ∧ State.reset.modem.modulator = .off
      ∧ online.modem.modulator ≠ .off ∧ online.power ≠ .held ∧ 200 = min (online.modem.crossing + 200) 4095 ∧ 4095 = min (online.modem.crossing + 5000) 4095
      ∧ ((heard .originate 200).modem.mode = .originate ∧ 200 + (heard .originate 200).modem.hPrev = 400)
      ∧ 200 + (heard .originate 340).modem.hPrev = 540 ∧ 200 + (heard .originate 199).modem.hPrev = 399
      ∧ 200 + (heard .originate 276).modem.hPrev = 476 ∧ 200 + (heard .originate 259).modem.hPrev = 459
      ∧ (¬(heard .answer 380).modem.mode = .originate ∧ 380 + (heard .answer 380).modem.hPrev = 760)
      ∧ 380 + (heard .answer 740).modem.hPrev = 1120 ∧ 380 + (heard .answer 741).modem.hPrev = 1121
      ∧ 380 + (heard .answer 562).modem.hPrev = 942 ∧ 380 + (heard .answer 545).modem.hPrev = 925
      ∧ (heard .originate 200).modem.carrier = .present ∧ (heard .originate 200).modem.level = .mark
      ∧ ({ heard .originate 259 with modem.level := .space } : State).modem.level = .space
      ∧ State.reset.modem.carrier = .absent ∧ calling.modem.carrier = .absent ∧ calling.sup.state ≠ .idle
      ∧ qualifying.modem.carrier = .qualifying ∧ fading.modem.carrier = .fading
      ∧ fading.modem.requalifyTimer ≠ none
      ∧ ({ fading with modem.requalifyTimer := none } : State).modem.requalifyTimer = none := by decide

theorem witness_FramesAreReceivedAsSent :
    (State.reset.settings.dataBits = 7 ∨ State.reset.settings.dataBits = 8)
      ∧ (State.reset.settings.stopBits = 1 ∨ State.reset.settings.stopBits = 2)
      ∧ ({ State.reset.settings with dataBits := 8, stopBits := 2 } : Settings).stopBits = 2 := by decide

/-- ONLINE with the sampler as given, over the level given. -/
def sampling (x : Sampler) (l : Level) : State := { online with modem.sampler := x, modem.level := l }

theorem witness_SamplerCommands :
    online.modem.sampler.receiving = true ∧ (sampling ⟨.breaking, 0, [], 320⟩ .space).modem.sampler.state = .breaking
      ∧ State.reset.modem.sampler.state = .suspended ∧ online.modem.sampler.state = .hunt
      ∧ online.modem.level = .mark ∧ (sampling ⟨.hunt, 0, [], 318⟩ .space).modem.sampler.spaceRun + 1 < 2 * 160
      ∧ (sampling ⟨.start, 7, [], 7⟩ .mark).modem.sampler.position = 7
      ∧ (sampling ⟨.start, 7, [], 7⟩ .space).modem.level = .space
      ∧ (sampling ⟨.waitMark, 0, [], 319⟩ .space).modem.sampler.spaceRun + 1
          = 2 * (16 * (1 + State.reset.settings.dataBits
            + (if State.reset.settings.parity = Parity.none then 0 else 1) + State.reset.settings.stopBits)) := by decide

/-- START before its middle, DATA at a bit, between bits and at the stop position, WAIT_MARK and BREAK. -/
theorem witness_SamplerCommands_states :
    (sampling ⟨.start, 6, [], 0⟩ .mark).modem.sampler.position < 7
      ∧ (let s := sampling ⟨.data, 23, [], 0⟩ .mark
        s.modem.sampler.state = .data ∧ 8 ≤ s.modem.sampler.position ∧ (s.modem.sampler.position + 1) % 16 = 8
          ∧ s.modem.sampler.position + 1 ≠ 8 + 16 * (8 + 1))
      ∧ (sampling ⟨.data, 8, [], 0⟩ .space).modem.sampler.position + 1 ≠ 8 + 16 * (8 + 1) ∧ (8 + 1) % 16 ≠ 8
      ∧ (let s := sampling ⟨.data, 151, List.replicate 8 false, 151⟩ .space
        s.modem.sampler.position + 1 = 8 + 16 * (8 + 1) ∧ s.modem.sampler.bits.length = 8 ∧ s.settings.dataBits ≤ 8
          ∧ s.modem.sampler.spaceRun + 1 < 2 * 160)
      ∧ (let s := sampling ⟨.waitMark, 0, [], 318⟩ .space
        s.modem.sampler.state = .waitMark ∧ s.modem.level = .space ∧ s.modem.sampler.spaceRun + 1 < 2 * 160)
      ∧ (sampling ⟨.waitMark, 0, [], 9⟩ .mark).modem.level = .mark
      ∧ (sampling ⟨.breaking, 0, [], 320⟩ .mark).modem.sampler.state = .breaking := by decide

theorem witness_InLineControls :
    (0x05 : Byte) ∈ [(0x11 : Byte), 0x13, 0x06, 0x15, 0x05] ∧ online.replyWait = none
      ∧ heldAnswer.sched.answerbackPending = true ∧ heldSend.sched.answerbackPending = false
      ∧ heldSend.sched.holdWait = some ⟨.chain 1, some 1⟩
      ∧ (onTurn .reply).replyWait = some (turnOn .reply)
      ∧ ((onTurn .reply).slot (turnOn .reply).member).successor = none
      ∧ (((onTurn .reply).setSlot 1 { posted .send .active with successor := some 2 }).slot 1).successor = some 2
      ∧ ((onTurn .reply).slot (turnOn .reply).head).copy = false
      ∧ (let s := (onTurn .reply).setSlot 1 { posted .send .active with copy := true }
        (s.slot 1).copy = true ∧ (s.slot 1).chainHead = some 1 ∧ (s.slot 1).kind = some .send
          ∧ (s.slot 1).state = .active)
      ∧ ¬(((onTurn .reply).setSlot 1 { posted .send .done with copy := true }).slot 1).state = .active
      ∧ ((onTurn .reply).slot (turnOn .reply).member).attempts < (onTurn .reply).settings.attemptLimit
      ∧ (onTurn .reply).settings.attemptLimit
        ≤ (((onTurn .reply).setSlot 1 { posted .send .active with attempts := 3 }).slot 1).attempts := by decide

/-- The parser in a state, ONLINE. -/
def parsing (x : ParserState) : State := { online with parser.state := x }

theorem witness_DiscardSkipsTheRecord :
    (parsing (.discard false)).parser.state = .discard false ∧ (parsing (.discard true)).parser.state = .discard true
      ∧ ¬(false = false ∧ (0x03 : Byte) ∈ [(0x11 : Byte), 0x13, 0x06, 0x15, 0x05])
      ∧ ((0x41 : Byte) ≠ 0x03 ∧ (0x41 : Byte) ≠ 0x01) := by decide

/-- TEXT, ROUTE, CLASS and BODY, the text's last place and past it, and the bytes at the ends of each range. -/
theorem witness_DiscardSkipsTheRecord_states :
    (parsing .text).parser.state = .text ∧ (parsing .route).parser.state = .route
      ∧ (parsing (.cls 0x39)).parser.state = .cls 0x39
      ∧ (parsing (.body 0x50 .c [] 0x13)).parser.state = .body 0x50 .c [] 0x13
      ∧ ¬(false = false ∧ (0x07 : Byte) ∈ [(0x11 : Byte), 0x13, 0x06, 0x15, 0x05])
      ∧ (0x20 ≤ (0x20 : Byte).toNat ∧ (0x7E : Byte).toNat ≤ 0x7E) ∧ (0x0D : Byte) ∈ [(0x09 : Byte), 0x08, 0x0A, 0x0C, 0x0D]
      ∧ ¬(0x20 ≤ (0x1F : Byte).toNat) ∧ ¬((0x7F : Byte).toNat ≤ 0x7E)
      ∧ (0x41 ≤ (0xC1 &&& 0x7F : Byte).toNat ∧ (0xDA &&& 0x7F : Byte).toNat ≤ 0x5A) ∧ ¬0x41 ≤ (0x40 : Byte).toNat
      ∧ (List.replicate 79 (⟨0x41, false⟩ : RxByte)).length < 80 ∧ 80 ≤ (List.replicate 80 (⟨0x41, false⟩ : RxByte)).length
      ∧ (∀ due, (parsing .route).parser.state ≠ .discard due) ∧ (parsing .route).parser.state ≠ .text := by decide

theorem witness_CheckByteDecides :
    (parsing (.check 0x50 .c [⟨0x41, true⟩] 0x1F)).parser.state = .check 0x50 .c [⟨0x41, true⟩] 0x1F
      ∧ (parsing (.check 0x50 .n [] 0x20)).parser.state = .check 0x50 .n [] 0x20
      ∧ ¬(false = false ∧ (0x3F : Byte) ∈ [(0x11 : Byte), 0x13, 0x06, 0x15, 0x05])
      ∧ (!false && decide ((0x3F : Byte) &&& 0x7F = if (0x1F : Byte) < 0x20 then 0x1F + 0x20 else 0x1F)) = true
      ∧ (∀ x ∈ ([⟨0x41, false⟩] : List RxByte), x.flawed = false)
      ∧ (∃ x ∈ ([⟨0x41, true⟩] : List RxByte), x.flawed = true) := by decide

/-- An ARMED slot 23 behind a PENDING, protected slot 1, both for route P. -/
def armedLast : State :=
  (withSlot { single .receive .pending with route := 0x50, protect := true }).setSlot 23
    { single .receive .armed with route := 0x2A, autoprint := true }

theorem witness_RecordsAreFiled :
    ((armedLast.slot 23).kind = some .receive ∧ (armedLast.slot 23).route = 0x2A ∧ (armedLast.slot 23).state = .armed
        ∧ ∀ j < (23 : SlotId), (armedLast.slot j).state ≠ .armed)
      ∧ (let s := withLast { single .receive .pending with route := 0x50 }
        (∀ j, (s.slot j).state ≠ .armed) ∧ (s.slot 23).protect = false ∧ (s.slot 23).job = .absent
          ∧ (s.slot 23).route = 0x50 ∧ ∀ j < (23 : SlotId), (s.slot j).kind ≠ some .receive)
      ∧ (let s := withLast { single .receive .pending with route := 0x50, protect := true }
        (∀ j, (s.slot j).state ≠ .armed ∧ ¬((s.slot j).state = .pending ∧ (s.slot j).protect = false))
          ∧ (s.slot 23).state = .pending ∧ (s.slot 23).owner = some .a)
      ∧ ∀ j, (State.reset.slot j).kind ≠ some .receive := by decide

theorem witness_RecordsAreReceivedAsSent :
    online.parser.state = .text ∧ isRouteCode ({ single .send .held with route := 0x5A } : Slot).route = true
      ∧ ({ single .send .held with length := 80 } : Slot).content.length = 80 := by decide

theorem witness_LocalFlowFollowsTheFifo :
    ({ online with settings.sink := .discard } : State).settings.sink = .discard ∧ online.settings.sink ≠ .discard
      ∧ 256 ≤ fullState.parser.fifo.length
      ∧ 191 ≤ ({ online with parser.fifo := List.replicate 191 ⟨0x41, false⟩ } : State).parser.fifo.length
      ∧ ({ online with parser.fifo := List.replicate 255 ⟨0x41, false⟩ } : State).parser.fifo.length < 256
      ∧ fullState.parser.fifo.length - 192 ≤ 64 ∧ ¬fullState.parser.fifo.length - 191 ≤ 64 := by decide

theorem witness_LineCommands :
    State.reset.portServes .b = true ∧ online.portServes .a = true ∧ online.sup.state = .online
      ∧ ¬(State.reset.sup.state = .online ∨ State.reset.sup.state = .clearing)
      ∧ online.sched.breakRequest = .none
      ∧ ({ online with sched.breakRequest := .sending } : State).sched.breakRequest ≠ .none
      ∧ 32 < (33 : Byte).toNat ∧ 1 ≤ (1 : Byte).toNat ∧ (32 : Byte).toNat ≤ 32
      ∧ online.settings.sink ≠ .portA
      ∧ ({ fullState with settings.sink := .portA } : State).settings.sink = (if Port.a = .a then Sink.portA else .portB)
      ∧ fullState.parser.fifo ≠ [] ∧ online.parser.fifo = [] := by decide

theorem witness_BoundaryOrder :
    online.sup.state = .online ∧ online.modem.modulator = .markIdle
      ∧ (let s : State := { online with sched.breakRequest := .requested }
        ¬(s.sched.breakRequest ≠ .requested ∨ s.recordInProgress = true))
      ∧ (onTurn (.record 1)).recordInProgress = true
      ∧ ({ online with parser.pendingFlow := some .xoff } : State).parser.pendingFlow = some .xoff
      ∧ ({ online with parser.replies := [.ack] } : State).parser.replies = .ack :: []
      ∧ (let s : State := { online with sched.turn := .key 1, sched.keyFifo := [⟨0x41, 1⟩] }
        s.parser.pendingFlow = none ∧ s.parser.replies = [] ∧ s.sched.remoteFlow = .xon
          ∧ s.sched.keyFifo = ⟨0x41, 1⟩ :: [] ∧ 0 < 1) := by decide

/-- CLEARING with an empty set; then with a chain, or a character, to wait for. -/
theorem witness_BoundaryOrder_clearing :
    (let s : State := { online with sup.state := .clearing, sup.clearing := some ⟨[], []⟩ }
     s.sup.state = .clearing ∧ s.modem.modulator = .markIdle ∧ s.sched.turn = .none ∧ s.sup.clearing = some ⟨[], []⟩)
      ∧ (let s : State := { online with sup.state := .clearing, sup.clearing := some ⟨[], [7]⟩ }
        ∃ set, s.sup.clearing = some set ∧ (set.chains ≠ [] ∨ set.chars ≠ [])) :=
  ⟨by decide, ⟨[], [7]⟩, rfl, by decide⟩

/-- The text of each kind of turn, a turn boundary with and without a choice, and a hold wait. -/
theorem witness_BoundaryOrder_turns :
    (let s : State := { online with sched.turn := .answerback [0x41] none }
     s.sched.turn = .answerback (0x41 :: []) none)
      ∧ (online.sched.turn = .none ∧ online.sched.holdWait = none ∧ online.chooseTurn = none)
      ∧ ({ online with sched.keyFifo := [⟨0x41, 1⟩] } : State).chooseTurn.isSome = true
      ∧ ({ online with sched.holdWait := some ⟨.chain 1, none⟩ } : State).sched.holdWait ≠ none
      ∧ (let s := (onTurn (.plain 1)).setSlot 1 { posted .send .active with length := 2 }
        s.sched.turn = .chain (turnOn (.plain 1)) ∧ s.sched.withdrawalPending = false ∧ s.sched.remoteFlow = .xon
          ∧ (s.plainBytes 1)[1]? = some 0x20)
      ∧ (recordCharacters (onTurn (.record 4)).settings ((onTurn (.record 4)).slot 1))[4]?.isSome = true
      ∧ (recordCharacters (onTurn (.record 4)).settings ((onTurn (.record 4)).slot 1)).length = 5
      ∧ (turnOn (.between true)).phase = .between true ∧ (turnOn .reply).phase = .reply
      ∧ (let s : State := { onTurn (.between false) with sched.answerbackPending := true }
        s.sched.turn = .chain (turnOn (.between false)) ∧ s.sched.answerbackPending = true)
      ∧ (let s : State := { onTurn (.record 4) with sched.withdrawalPending := true, sched.remoteFlow := .xoff }
        s.sched.withdrawalPending = true ∧ s.sched.remoteFlow = .xoff ∧ 4 < 5) := by decide

/-- A character under way that is a member's check byte. -/
def sendingCheck : State :=
  { onTurn (.record 5) with modem.modulator := .character [] 0, sched.handed := some .check }

theorem witness_ElementsComplete :
    ({ online with modem.modulator := .breaking none } : State).modem.modulator = .breaking none
      ∧ sendingCheck.modem.modulator = .character [] 0 ∧ sendingCheck.sched.handed = some .check
      ∧ sendingCheck.sched.turn = .chain (turnOn (.record 5)) ∧ sendingCheck.sched.withdrawalPending = false
      ∧ (sendingCheck.slot (turnOn (.record 5)).member).cls = .n
      ∧ (sendingCheck.slot (turnOn (.record 5)).member).successor = none
      ∧ ((sendingCheck.setSlot 1 { posted .send .active with cls := .c }).slot 1).cls = .c
      ∧ ((sendingCheck.setSlot 1 { posted .send .active with successor := some 23 }).slot 1).successor = some 23
      ∧ ({ sendingCheck with sched.handed := some .can } : State).sched.handed = some .can
      ∧ (let s : State := { sendingCheck with sched.handed := some (.key 1), sched.turn := .key 0 }
        s.sched.handed = some (.key 1) ∧ s.sched.turn = .key 0)
      ∧ (let s : State := { sendingCheck with sched.handed := some .answerback, sched.turn := .answerback [] none }
        s.sched.handed = some .answerback ∧ s.sched.turn = .answerback [] none)
      ∧ (let s : State := { onTurn (.plain 0) with modem.modulator := .character [] 0, sched.handed := some .plain }
        s.sched.turn = .chain (turnOn (.plain 0)) ∧ 0 = (s.plainBytes 1).length ∧ s.sched.withdrawalPending = false)
      ∧ 1 ≠ ((onTurn (.plain 1)).plainBytes 1).length := by decide

/-- Slot 1 QUEUED in the send queue, nothing held, ONLINE; a key-to-line character beside it. -/
def queuedSend : State :=
  { online.setSlot 1 (posted .send .queued) with
    sched.sendQueue := [⟨1, 1⟩], sched.keyFifo := [⟨0x41, 2⟩], sched.issued := 2 }

theorem witness_TurnsAreChosenByRule :
    queuedSend.selectChain = some ⟨1, 1⟩ ∧ queuedSend.keysReady ≠ 0 ∧ heldAnswer.sched.answerbackPending = true
      ∧ queuedSend.sched.answerbackPending = false ∧ queuedSend.sched.remoteFlow = .xon
      ∧ ({ queuedSend with sched.remoteFlow := .xoff } : State).sched.remoteFlow = .xoff
      ∧ online.keysReady = 0 ∧ online.selectChain = none
      ∧ (queuedSend.settings.turnMode = .alternate ∧ queuedSend.sched.lastTurn = .key) := by decide

/-- An eligible chain, in CLEARING too; characters of the clearing set in front of others; a chain held and not held,
PLAIN with and without a byte to send; slot 0 held and not held. -/
theorem witness_TurnsAreChosenByRule_starts :
    (⟨1, 1⟩ ∈ queuedSend.sched.sendQueue ∧ (queuedSend.slot 1).state = .queued ∧ (queuedSend.slot 1).chainHead = some 1
        ∧ (queuedSend.slot 1).owner = some .a ∧ queuedSend.sched.masks.get .a = none ∧ queuedSend.sup.state ≠ .clearing)
      ∧ (let s : State := { queuedSend with
          sup.state := .clearing, sup.clearing := some ⟨[1], [2]⟩, sched.keyFifo := [⟨0x41, 2⟩, ⟨0x42, 3⟩] }
        s.selectChain = some ⟨1, 1⟩ ∧ s.keysReady = 1)
      ∧ (heldSend.members 1 = [1] ∧ (heldSend.slot 1).hold = true)
      ∧ (queuedSend.members 1 = [1] ∧ (queuedSend.slot 1).hold = false ∧ (queuedSend.slot 1).framing = .plain
        ∧ queuedSend.plainBytes 1 = [])
      ∧ ((queuedSend.setSlot 1 { posted .send .queued with length := 1 }).plainBytes 1 ≠ [])
      ∧ (∀ b : Byte, answerbackSent b = true ↔ ((0x20 ≤ b.toNat ∧ b.toNat ≤ 0x7E) ∨ b = 0x0D ∨ b = 0x0A))
      ∧ (heldAnswer.slot 0).hold = true ∧ (State.reset.slot 0).hold = false := by decide

theorem witness_HoldMaskAndReplyTimers :
    (let s : State := { onTurn .reply with sched.replyTimer := some 1 }
     s.sched.turn = .chain (turnOn .reply) ∧ (turnOn .reply).phase = .reply ∧ s.sched.replyTimer ≠ none
        ∧ (s.slot (turnOn .reply).member).attempts < s.settings.attemptLimit)
      ∧ (let s := (onTurn .reply).setSlot 1 { posted .send .active with attempts := 3 }
        s.settings.attemptLimit ≤ (s.slot (turnOn .reply).member).attempts)
      ∧ heldSend.sched.holdWait = some ⟨.chain 1, some 1⟩ ∧ (heldSend.slot 1).owner = some .a
      ∧ heldAnswer.sched.holdWait = some ⟨.answerback, some 1⟩ ∧ (heldAnswer.slot 0).owner = some .a
      ∧ (State.reset.slot 0).owner = none
      ∧ (let s : State := { State.reset with sched.masks := ⟨some 1, none⟩, sched.flowTimer := some 1 }
        s.sched.masks.get .a ≠ none ∧ s.sched.flowTimer ≠ none)
      ∧ (let s : State := { State.reset with parser.silence := ⟨some 1, false⟩, arb.silence := ⟨some 1, false⟩ }
        s.parser.silence.timer ≠ none ∧ s.arb.silence.timer ≠ none)
      ∧ heldPrint.arb.holdWait = some ⟨1, some 1⟩ ∧ (heldPrint.slot 1).owner = some .a
      ∧ ({ State.reset with arb.masks := ⟨none, some 1⟩ } : State).arb.masks.get .b ≠ none := by decide

theorem witness_DrainMarks :
    State.reset.portServes .a = true ∧ 2 ≤ (2 : Byte).toNat ∧ (∀ e ∈ State.reset.lineEntries, State.reset.sched.issued < e)
      ∧ (∃ e ∈ queuedSend.lineEntries, e ≤ queuedSend.sched.issued)
      ∧ (∀ e ∈ State.reset.printEntries, State.reset.arb.issued < e) ∧ State.reset.arb.copyBuffer.length = 0
      ∧ State.reset.arb.feeds = 0 ∧ State.reset.arb.unit.owesLine = false ∧ State.reset.parser.fifo.length = 0
      ∧ ¬fullState.arb.feeds = 0 := by decide

theorem witness_FocusMoves :
    State.reset.portServes .a = true ∧ State.reset.kbd.focus = none
      ∧ (let s : State := { State.reset with kbd.focus := some .a, kbd.wanted := some .b, kbd.attached := ⟨true, true⟩ }
        s.portServes .a = true ∧ s.kbd.focus = some .a ∧ s.kbd.wanted = some .b
          ∧ s.kbd.attached.get (otherPort .a) = true)
      ∧ (let s : State := { State.reset with kbd.focus := some .a }
        s.kbd.wanted = none ∧ s.kbd.focus = some (otherPort .b) ∧ s.kbd.focus ≠ some .b
          ∧ s.kbd.attached.get (otherPort .a) = false)
      ∧ ({ State.reset with kbd.attached := ⟨true, false⟩ } : State).kbd.attached.a = true
      ∧ (let s : State := { State.reset with kbd.attached := ⟨false, true⟩ }
        s.kbd.focus = none ∧ s.kbd.attached.a = false ∧ s.kbd.attached.b = true)
      ∧ (State.reset.kbd.attached.a = false ∧ State.reset.kbd.attached.b = false) := by decide

theorem witness_ReadKeysTakesTheOwnEntries :
    State.reset.portServes .a = true ∧ 8 < (9 : Byte).toNat ∧ 1 ≤ (1 : Byte).toNat ∧ (8 : Byte).toNat ≤ 8
      ∧ (State.reset.kbd.queue.filter fun e => e.tag = .a) = []
      ∧ ([⟨0x41, .char, ⟨false, false, false⟩, false, .b⟩, ⟨0x42, .edit, ⟨false, false, false⟩, false, .a⟩] :
          List KeyEntry).filter (fun e => e.tag = .a) ≠ [] := by decide

theorem witness_ScanDebounces :
    State.reset.power ≠ .held ∧ State.reset.kbd.nonModifiers ≤ 4 ∧ fullState.kbd.nonModifiers = 4
      ∧ (∀ p : KeyPos, (0 : BitVec 80).getLsbD p.val = State.reset.kbd.debounce[p].down
          ∧ (State.reset.kbd.debounce[p].down = true → p ∈ State.reset.kbd.down))
      ∧ keyAt 0 = .function 0x81 ∧ keyAt 59 = .edit 0x0D ∧ keyAt 11 = .char 0x71 0x51 ∧ keyAt 30 = .char 0x7A 0x5A
      ∧ keyAt 27 = .char 0x5B 0x7B ∧ keyAt 60 = .caps ∧ keyAt 61 = .ctrl ∧ keyAt 62 = .feed ∧ keyAt 63 = .breakKey
      ∧ keyAt 70 = .shift ∧ keyAt 79 = .shift ∧ keyAt 65 = .absent ∧ keyAt 78 = .absent
      ∧ State.reset.arb.feeds < 9 ∧ 9 ≤ fullState.arb.feeds ∧ online.sup.state = .online
      ∧ State.reset.sup.state ≠ .online ∧ State.reset.sup.state ≠ .clearing := by decide

/-- Position 11 repeating, for a focus and a key mode. -/
def repeating (focus : Option Port) (m : KeyMode) : State :=
  { State.reset with
    kbd.repeatKey := some ⟨11, 0x71, .char, ⟨false, false, false⟩, 100000⟩
    kbd.repeatTimer := some 1
    kbd.focus := focus
    settings.keyMode := ⟨m, m⟩ }

theorem witness_RepeatsAreRouted :
    (repeating none .queue).kbd.repeatKey = some ⟨11, 0x71, .char, ⟨false, false, false⟩, 100000⟩
      ∧ (repeating none .queue).kbd.repeatTimer ≠ none ∧ (repeating none .queue).kbd.focus = none
      ∧ (repeating (some .b) .queue).settings.keyMode.get .b = .queue ∧ (repeating (some .b) .queue).kbd.queue.length < 16
      ∧ (repeating (some .b) .line).settings.keyMode.get .b ≠ .queue
      ∧ (repeating (some .b) .line).sched.keyFifo.length < 32
      ∧ 32 ≤ (List.replicate 32 (⟨0x41, 1⟩ : KeyChar)).length
      ∧ (repeating (some .b) .lineCopy).settings.keyMode.get .b = .lineCopy
      ∧ (repeating (some .b) .lineCopy).arb.copyBuffer.length < 160
      ∧ 160 ≤ (List.replicate 160 (0x41 : Byte)).length := by decide

theorem witness_FeedAndStatusReads :
    State.reset.portServes .a = true ∧ (1 : Byte) ≠ 0 ∧ ¬9 < State.reset.arb.feeds + (9 : Byte).toNat
      ∧ 9 < State.reset.arb.feeds + (10 : Byte).toNat
      ∧ [State.reset.settings.lampLine, State.reset.settings.lampPaper, State.reset.settings.lampSupply,
        State.reset.settings.lampFocus][3]? = some .auto ∧ State.reset.lampLevels[3]? = some .dark := by decide

/-- Slot 1 as a QUEUED print chain in the print queue. -/
def queuedPrint : State :=
  { State.reset.setSlot 1 (posted .print .queued) with arb.queue := [⟨.print, 1, .a, 4, 1⟩], arb.issued := 1 }

/-- A local copy line that is ready. -/
def readyCopy : State := { State.reset with arb.copyBuffer := [0x0D] }

theorem witness_PrintUnitsAreChosenByRule :
    queuedPrint.selectJob = some ⟨.print, 1, .a, 4, 1⟩ ∧ State.reset.engineTakes = true ∧ State.reset.arb.unit = .none
      ∧ 0 < ({ State.reset with arb.feeds := 1 } : State).arb.feeds
      ∧ (heldPrint.arb.feeds = 0 ∧ heldPrint.arb.holdWait = some ⟨1, some 1⟩ ∧ heldPrint.chainHeld 1 = true)
      ∧ State.reset.arb.holdWait = none ∧ State.reset.selectJob = none
      ∧ ¬(State.reset.sourceReady .lds = true ∨ State.reset.sourceReady .lcs = true)
      ∧ readyCopy.sourceReady .lcs = true ∧ readyCopy.selectJob = none
      ∧ (readyCopy.settings.printMode = .liveFirst
        ∨ readyCopy.settings.printMode = .alternate ∧ readyCopy.arb.lastUnit = .queue) := by decide

/-- A job in print, with the text of slot 1. -/
def inJob (blanks : Nat) (len : Nat) : State :=
  { withSlot { posted .print .active with length := len } with arb.unit := .job ⟨.print, 1, .a, 4, 1⟩ 0 blanks 254 }

/-- An eligible job, held and not held; the three kinds of job; hold waits that go on, start again and end; live and
feed units at their line's end; a job with a line left, blank lines left, none left, and its withdrawal pending. -/
theorem witness_PrintUnitsAreChosenByRule_jobs :
    (⟨.print, 1, .a, 4, 1⟩ ∈ queuedPrint.arb.queue ∧ queuedPrint.arb.masks.get .a = none
        ∧ (queuedPrint.slot 1).state = .queued ∧ (queuedPrint.slot 1).chainHead = some 1)
      ∧ (heldPrint.members 1 = [1] ∧ (heldPrint.slot 1).hold = true)
      ∧ (queuedPrint.members 1 = [1] ∧ (queuedPrint.slot 1).hold = false)
      ∧ (State.reset.slot 1).framing = .plain ∧ ((withSlot { single .send .copying with framing := .record }).slot 1).framing = .record
      ∧ (heldPrint.engineTakes = true ∧ heldPrint.arb.unit = .none)
      ∧ (let s : State := { queuedPrint with arb.holdWait := some ⟨1, none⟩ }
        s.chainHeld 1 = false ∧ (s.arb.queue.find? fun j => j.kind = .print ∧ j.slot = 1) = some ⟨.print, 1, .a, 4, 1⟩)
      ∧ (State.reset.chainHeld 1 = false ∧ ∀ j ∈ State.reset.arb.queue, ¬(j.kind = .print ∧ j.slot = 1))
      ∧ ({ State.reset with arb.unit := .live .lcs 3 } : State).arb.unit = .live .lcs 3
      ∧ ({ State.reset with arb.unit := .feed } : State).arb.unit = .feed
      ∧ (inJob 0 1).arb.unit = .job ⟨.print, 1, .a, 4, 1⟩ 0 0 254 ∧ (inJob 0 1).engineTakes = true
      ∧ (jobCompose ((inJob 0 1).jobTokens ⟨.print, 1, .a, 4, 1⟩) 0).handout.isSome = true
      ∧ (jobCompose ((inJob 0 0).jobTokens ⟨.print, 1, .a, 4, 1⟩) 0).handout = none
      ∧ (inJob 4 0).arb.unit = .job ⟨.print, 1, .a, 4, 1⟩ 0 4 254
      ∧ ({ inJob 4 0 with arb.withdrawalPending := true } : State).arb.withdrawalPending = true := by decide

theorem witness_LinesHoldEightyColumns :
    (⟨Vector.replicate 80 .empty, 80⟩ : LineBuffer).column ≤ 80
      ∧ (∀ b ∈ ([0x20, 0x7E] : List Byte), 0x20 ≤ b.toNat ∧ b.toNat ≤ 0x7E)
      ∧ 81 ≤ (List.replicate 81 (0x41 : Byte)).length ∧ (List.replicate 80 (0x41 : Byte)).length ≤ 80 := by decide

/-- The columns at which a TAB ends a line and moves; the two sinks; a take that hands a line, and one that does not. -/
theorem witness_LinesHoldEightyColumns_takes :
    72 ≤ 72 ∧ 71 < 72 ∧ 71 < 8 * 9 ∧ 8 * 9 ≤ 71 + 8 ∧ (0x7F : Byte) ∉ [(0x0D : Byte), 0x0A, 0x0C, 0x09, 0x08]
      ∧ (glyphOf 0x7F false = none ∧ glyphOf 0x7F true = some .flaw ∧ glyphOf 0x7E false = some (.code 0x7E))
      ∧ State.reset.settings.sink = .print ∧ ({ State.reset with settings.sink := .discard } : State).settings.sink ≠ .print
      ∧ (liveCompose readyCopy.arb.lcsEnd (readyCopy.liveTokens .lcs)).handout.isSome = true
      ∧ (liveCompose .afterCr [.byte 0x0A false]).handout = none := by decide

theorem witness_StrobeTimesAndDotLimit : State.reset.settings.density ≤ 15 ∧ 15 ≤ 15 ∧ (64 : Int) < 65 := by decide

theorem witness_FiringGroupsOfARow : 40 ≤ 40 ∧ (0 : Nat) < 16 ∧ 40 ≤ dotLimit 0 := by decide

theorem witness_NoRowFiresBelowTheLimits :
    (let s : State := { State.reset with
      engine.batteryJudged := true, engine.headJudged := true, monitor.v := 4200, monitor.th := 64 }
    (s.engine.batteryJudged = true ∧ s.engine.headJudged = true) ∧ ¬s.monitor.v < 4200 ∧ ¬65 ≤ s.monitor.th)
      ∧ ¬(State.reset.engine.batteryJudged = true ∧ State.reset.engine.headJudged = true)
      ∧ (State.reset.engine.supply = false ∧ State.reset.monitor.v < 4200) := by decide

/-- A row that fires: one with a group, and one without a black dot. -/
theorem witness_NoRowFiresBelowTheLimits_fires :
    (let s : State := { State.reset with
      engine.batteryJudged := true, engine.headJudged := true, monitor.v := 4200, monitor.th := 64 }
     s.checkRow.engine.state = .row ∧ (s.checkRow.engine.firing.map (·.groups)) = some []
       ∧ ({ s with engine.line := some (.cells (Vector.replicate 80 (.one .flaw))), engine.step := 2
           } : State).checkRow.engine.strobes ≠ 0) := by decide

theorem witness_FiringOfAGroup :
    (inRow (firing 1 .gap)).engine.firing = some (firing 1 .gap) ∧ (firing 1 .gap).phase = .gap
      ∧ (firing 0 .phase1).phase = .phase1 ∧ (firing 0 .phase2).phase = .phase2
      ∧ (firing 0 .phase2).index + 1 < (firing 0 .phase2).groups.length
      ∧ ¬(firing 1 .phase2).index + 1 < (firing 1 .phase2).groups.length
      ∧ (inRow (firing 0 .phase2)).monitor.batteryDue = false
      ∧ ({ inRow (firing 0 .phase2) with monitor.batteryDue := true } : State).monitor.batteryDue = true := by decide

theorem witness_StepEndMovesThePaper :
    (let s := inRow (firing 1 .done)
     s.engine.state = .row ∧ s.engine.stopRequested = false ∧ s.engine.step < 11)
      ∧ ({ inRow (firing 1 .done) with engine.stopRequested := true } : State).engine.stopRequested = true
      ∧ (let s : State := { State.reset with engine.state := .blank, engine.step := 14 }
        s.engine.state = .blank ∧ 11 ≤ s.engine.step ∧ s.engine.step < 15)
      ∧ 15 ≤ ({ State.reset with engine.state := .blank, engine.step := 15 } : State).engine.step
      ∧ ({ State.reset with engine.paperOutPending := true } : State).engine.paperOutPending = true
      ∧ State.reset.engine.paperOutPending = false := by decide

theorem witness_PaperSensor :
    State.reset.power ≠ .held ∧ ({ State.reset with engine.paper := true } : State).engine.paper = true
      ∧ State.reset.engine.paper = false ∧ State.reset.engine.line = none
      ∧ (inRow (firing 0 .phase1)).engine.line ≠ none ∧ (inRow (firing 0 .phase1)).engine.paper = false
      ∧ ({ State.reset with engine.paperTimer := some 1 } : State).engine.paperTimer ≠ none := by decide

theorem witness_MonitorEvents :
    State.reset.power ≠ .held ∧ State.reset.engine.strobes = 0 ∧ State.reset.engine.state ≠ .held
      ∧ firstGroup.engine.strobes ≠ 0 ∧ ({ State.reset with engine.state := .held } : State).engine.state = .held
      ∧ State.reset.settings.beeper = true ∧ State.reset.lampLevels[0]? = some .dark ∧ State.reset.monitor.burst = none
      ∧ State.reset.beep.monitor.burst = some (100000 - 0)
      ∧ ({ State.reset with settings.beeper := false } : State).settings.beeper = false := by decide

theorem witness_EventUnits :
    State.reset.portServes .a = true ∧ EventUnit.reset.enables.getLsbD (Alert.holdExpired).index = true
      ∧ ({ EventUnit.reset with enables := 0 } : EventUnit).enables.getLsbD (Alert.paperOut).index = false
      ∧ EventUnit.reset.latched = 0 ∧ ({ EventUnit.reset with latched := 0x80 } : EventUnit).latched ≠ 0
      ∧ 8 ≤ (8 : Byte).toNat ∧ (7 : Byte).toNat = (7 : Fin 8).val ∧ EventUnit.reset.sources[7] = none
      ∧ manyEvents.events.a.sources[5] = some ⟨.drained .line, 255⟩
      ∧ (let u := { manyEvents.events.a with masks := 0 }
        u.sources[u.pointer + 1 + (5 : Fin 8)] = some ⟨.drained .line, 255⟩ ∧ u.masks.getLsbD (u.pointer + 1 + (5 : Fin 8)).val = false
          ∧ ∀ j < (5 : Fin 8), u.sources[u.pointer + 1 + j] = none) := by decide

theorem witness_ConfigureAndReadSetting :
    State.reset.portServes .a = true ∧ 25 ≤ (25 : Byte).toNat ∧ (10 : Byte).toNat ≤ 10 ∧ online.sup.state ≠ .idle
      ∧ (24 : Byte).toNat ≤ 24 ∧ 11 ≤ (11 : Byte).toNat ∧ State.reset.sup.state = .idle
      ∧ ((17 : Byte), 5, 30, 1) ∈ [((16 : Byte), 250, 1000, 50), (17, 5, 30, 1)]
      ∧ 4 ≤ (4 : BitVec 16).toNat ∧ (3 : BitVec 16).toNat < 4 := by decide

theorem witness_ControllerResetKeepsTheSettings :
    State.reset.portServes .a = true ∧ (inRow (firing 0 .phase1)).portServes .b = true
      ∧ (inRow (firing 0 .phase1)).engine.state = .row
      ∧ ({ State.reset with engine.state := .held } : State).engine.state = .held ∧ State.reset.engine.state = .idle
      ∧ (onTurn .reply).portServes .a = true ∧ ((onTurn .reply).slot 1).state = .active := by decide

end Sys2Proof.Tests
end

section
/-! PROOF. The slot store (chapter 1): CLAIM, WRITE TEXT, EDIT and ARM. The first part says once what a handler gives
at a port that serves it; each rule then has one equation of its handler per case. -/

namespace Sys2Proof.Machine

open Sys2Proof

/-! ## Commands at a serving port -/

/-- What a handler leaves and answers is the next state, when the port serves the command (R188, R190). -/
theorem State.servePort_next {s t : State} {p : Port} {r : Response} {f : State → State × Response}
    (serves : s.portServes p = true) (result : f (s.attach p) = (t, r)) :
    (.next (s.servePort p f) : Host.Outcome State Fault Refusal) = .next (t.respond p r) := by
  rw [State.servePort_serves serves, result]

/-- A handler that refuses changes nothing but the port's attachment and its answer (R5, R123). -/
theorem State.servePort_refused {s : State} {p : Port} {r : Result} {f : State → State × Response}
    (serves : s.portServes p = true) (refused : f (s.attach p) = refuse r (s.attach p)) :
    (.next (s.servePort p f) : Host.Outcome State Fault Refusal) = .next (s.answeredOnly p r) :=
  State.servePort_next serves refused

/-- An answer on one port leaves the other port as ready as it was (R188). -/
theorem State.respond_portServes_other (s : State) (p : Port) (r : Response) :
    (s.respond p r).portServes (otherPort p) = s.portServes (otherPort p) := by
  cases p <;> rfl

@[simp] theorem State.respond_slot (s : State) (p : Port) (r : Response) (i : SlotId) :
    (s.respond p r).slot i = s.slot i := by
  cases p <;> rfl

/-! ## Kinds and states -/

/-- The kinds that belong to chains are SEND and PRINT (R16). -/
@[simp] theorem Slot.isChainKind_iff (x : Slot) : x.isChainKind = true ↔ x.chains := by
  simp [Slot.isChainKind, Slot.chains]

/-- The end states are DONE, ABORTED and FAILED (R1). -/
@[simp] theorem SlotState.isEnd_iff (st : SlotState) : st.isEnd = true ↔ st ∈ [.done, .aborted, .failed] := by
  cases st <;> decide

/-! ## Searching the slots -/

/-- No slot passes a test that fails on every slot. -/
theorem State.slotsWhere_eq_nil {s : State} {f : SlotId → Slot → Bool} (fails : ∀ i, f i (s.slot i) = false) :
    s.slotsWhere f = [] := by
  simp [State.slotsWhere, fails]

/-- The search is in ascending order: it begins with the lowest-numbered slot that passes. -/
theorem State.slotsWhere_eq_cons {s : State} {f : SlotId → Slot → Bool} {i : SlotId} (passes : f i (s.slot i) = true)
    (lowest : ∀ j < i, f j (s.slot j) = false) : ∃ rest, s.slotsWhere f = i :: rest := by
  have mem : i ∈ s.slotsWhere f := by simp [State.slotsWhere, passes]
  have ascending : (s.slotsWhere f).Pairwise (· < ·) := (List.pairwise_lt_finRange 24).filter _
  cases found : s.slotsWhere f with
  | nil => simp [found] at mem
  | cons j rest =>
    have hj : f j (s.slot j) = true := by
      have : j ∈ s.slotsWhere f := by simp [found]
      simpa [State.slotsWhere] using this
    rw [found] at mem ascending
    rcases List.mem_cons.1 mem with rfl | later
    · exact ⟨rest, rfl⟩
    · have : j < i := List.rel_of_pairwise_cons ascending later
      simp [lowest j this] at hj

/-! ## CLAIM (R6, R7) -/

/-- A kind argument above 3 names no kind (section 11.5). -/
theorem kindArg_eq_none {b : Byte} (h : 4 ≤ b.toNat) : kindArg b = none := by
  have named (n : Nat) (hn : n < 4) : b ≠ BitVec.ofNat 8 n := by
    rintro rfl
    rw [BitVec.toNat_ofNat] at h
    omega
  simp [kindArg, named 0, named 1, named 2, named 3]

/-- CLAIM with a kind code of a general slot is a claim of that kind. -/
theorem claimCommand_general {b : Byte} {k : Kind}
    (code : (b, k) ∈ [((0 : Byte), Kind.send), (1, Kind.print), (2, Kind.receive)]) (p : Port) (s : State) :
    claimCommand p b s = claimGeneral p k s := by
  simp only [List.mem_cons, List.not_mem_nil, or_false, Prod.mk.injEq] at code
  rcases code with ⟨rfl, rfl⟩ | ⟨rfl, rfl⟩ | ⟨rfl, rfl⟩ <;> rfl

theorem claimGeneral_quota {s : State} {p : Port} (full : 16 ≤ s.owned p) (k : Kind) :
    claimGeneral p k s = refuse .quota s :=
  if_pos full

theorem claimGeneral_noSlot {s : State} {p : Port} (quota : s.owned p < 16)
    (claimed : ∀ i : SlotId, i ≠ 0 → (s.slot i).state ≠ .free) (k : Kind) :
    claimGeneral p k s = refuse .noSlot s := by
  have none_free : (s.slotsWhere fun i x => i ≠ 0 && x.state = .free) = [] :=
    State.slotsWhere_eq_nil fun i => by simpa using claimed i
  simp only [claimGeneral, Nat.not_le.2 quota, if_false, none_free]

/-- The slot CLAIM takes is the first one its search finds (R6). -/
theorem claimGeneral_takes_lowest {s : State} {p : Port} {i : SlotId} (quota : s.owned p < 16) (general : i ≠ 0)
    (free : (s.slot i).state = .free) (lowest : ∀ j : SlotId, j ≠ 0 → j < i → (s.slot j).state ≠ .free) (k : Kind) :
    claimGeneral p k s = (s.setSlot i (Slot.claimed k p), ⟨.ok, [byteOf i.val]⟩) := by
  obtain ⟨rest, found⟩ : ∃ rest, (s.slotsWhere fun i x => i ≠ 0 && x.state = .free) = i :: rest :=
    State.slotsWhere_eq_cons (by simp [general, free]) fun j below => by simpa using fun hj => lowest j hj below
  simp only [claimGeneral, Nat.not_le.2 quota, if_false, found]

theorem claimAnswerback_quota {s : State} {p : Port} (unowned : (s.slot 0).owner = none) (full : 16 ≤ s.owned p) :
    claimAnswerback p s = refuse .quota s := by
  simp [claimAnswerback, unowned, full]

theorem claimAnswerback_takes {s : State} {p : Port} (unowned : (s.slot 0).owner = none) (quota : s.owned p < 16) :
    claimAnswerback p s = (s.setSlot 0 { s.slot 0 with owner := some p }, ⟨.ok, [0]⟩) := by
  simp [claimAnswerback, unowned, Nat.not_le.2 quota]

theorem claimAnswerback_owned {s : State} {p : Port} (owned : (s.slot 0).owner = some p) :
    claimAnswerback p s = (s, ⟨.ok, [0]⟩) := by
  simp [claimAnswerback, owned]

theorem claimAnswerback_taken {s : State} {p : Port} (taken : (s.slot 0).owner = some (otherPort p)) :
    claimAnswerback p s = refuse .wrongState s := by
  simp [claimAnswerback, taken, otherPort_ne]

/-- CLAIM(ANSWERBACK) while the other port owns slot 0 is refused, as is the later of two claims (R7). -/
theorem exec_claimAnswerback_taken {s : State} {p : Port} (serves : s.portServes p = true)
    (taken : (s.slot 0).owner = some (otherPort p)) : exec (.claim p 3) s = .next (s.answeredOnly p .wrongState) :=
  State.servePort_refused serves (claimAnswerback_taken taken)

/-- Settles O13: one equation of the handler per test of R6 and per owner of slot 0 in R7. -/
theorem claimGivesASlot : Obligations.ClaimGivesASlot := by
  refine ⟨fun s p b serves => ⟨fun outside => ?_, fun k code => ⟨fun full => ?_, fun quota claimed => ?_,
    fun i quota general free lowest => ?_⟩⟩, fun s p serves => ⟨fun unowned quota => ?_, fun unowned full => ?_,
    fun owned => ?_, fun taken => ?_, fun unowned quota otherServes => ?_⟩⟩
  · exact State.servePort_refused serves (by simp only [claimCommand, kindArg_eq_none outside])
  · exact State.servePort_refused serves
      ((claimCommand_general code p _).trans (claimGeneral_quota (s := s.attach p) full k))
  · exact State.servePort_refused serves
      ((claimCommand_general code p _).trans (claimGeneral_noSlot (s := s.attach p) quota claimed k))
  · exact State.servePort_next serves
      ((claimCommand_general code p _).trans (claimGeneral_takes_lowest (s := s.attach p) quota general free lowest k))
  · exact State.servePort_next serves (claimAnswerback_takes unowned quota)
  · exact State.servePort_refused serves (claimAnswerback_quota unowned full)
  · exact State.servePort_next serves (claimAnswerback_owned owned)
  · exact exec_claimAnswerback_taken serves taken
  · refine ⟨_, State.servePort_next serves (claimAnswerback_takes unowned quota), exec_claimAnswerback_taken ?_ ?_⟩
    · rw [State.respond_portServes_other]
      exact otherServes
    · cases p <;> simp [otherPort]

/-! ## WRITE TEXT (R12) -/

/-- The argument ranges of WRITE TEXT and READ TEXT (R12, R13). -/
theorem textRange_iff (offset count : Byte) :
    textRange offset count = true ↔ offset.toNat ≤ 79 ∧ 1 ≤ count.toNat ∧ count.toNat ≤ 32 := by
  simp [textRange, and_assoc]

/-- The states in which WRITE TEXT is allowed (R12). -/
theorem Slot.writable_eq_none {x : Slot} (h : x.chains ∧ x.state = .held ∨ x.chains ∧ x.state = .queued ∧ x.hold = true
    ∨ x.state = .standing ∧ x.hold = true) : x.writable = none := by
  rcases h with ⟨chains, held⟩ | ⟨-, queued, hold⟩ | ⟨standing, hold⟩
  · simp [Slot.writable, held, chains]
  · simp [Slot.writable, queued, hold]
  · simp [Slot.writable, standing, hold]

theorem Slot.writable_notHeld {x : Slot} (state : x.state = .queued ∨ x.state = .standing) (hold : x.hold = false) :
    x.writable = some .notHeld := by
  rcases state with h | h <;> simp [Slot.writable, h, hold]

theorem Slot.writable_busy {x : Slot} (state : x.state = .active ∨ x.state = .copying) :
    x.writable = some .busy := by
  rcases state with h | h <;> simp [Slot.writable, h]

theorem Slot.writable_wrongState {x : Slot}
    (h : x.kind = some .receive ∧ x.state ∈ [SlotState.held, .armed, .pending]
      ∨ x.state ∈ [SlotState.done, .aborted, .failed]) : x.writable = some .wrongState := by
  simp only [List.mem_cons, List.not_mem_nil, or_false] at h
  rcases h with ⟨kind, h | h | h⟩ | h | h | h <;> simp [Slot.writable, *]

/-- With as many bytes as the count, no stored position takes an old byte (assumption 31 does not arise). -/
theorem storeText_eq {bytes : List Byte} {count : Nat} (fits : bytes.length = count) (old : Vector Byte 80)
    (offset : Nat) : storeText old offset count bytes = Vector.ofFn fun q : Fin 80 =>
      if offset ≤ q.val ∧ q.val < offset + count then bytes.getD (q.val - offset) 0 else old[q] := by
  refine congrArg Vector.ofFn (funext fun q => ?_)
  by_cases inside : offset ≤ q.val ∧ q.val < offset + count
  · have : q.val - offset < bytes.length := by omega
    simp [inside, this]
  · simp [inside]

/-- An argument of WRITE TEXT out of its range is tested before the state of the slot (R5). -/
theorem writeTextCommand_badArg {s : State} {p : Port} {b : Byte} {i : SlotId} {offset count : Byte}
    (owns : s.owns p b i) (range : textRange offset count = false) (ef : Byte) (bytes : List Byte) :
    writeTextCommand p b offset count ef bytes (s.attach p) = refuse .badArg (s.attach p) := by
  simp [writeTextCommand, onSlot_owns owns, range]

section WriteTextInRange

variable {s : State} {p : Port} {b : Byte} {i : SlotId} {offset count ef : Byte}

theorem writeTextCommand_refuses {r : Result} (owns : s.owns p b i) (range : textRange offset count = true)
    (flag : ef.toNat ≤ 1) (state : (s.slot i).writable = some r) (bytes : List Byte) :
    writeTextCommand p b offset count ef bytes (s.attach p) = refuse r (s.attach p) := by
  simp [writeTextCommand, onSlot_owns owns, range, Nat.not_lt.2 flag, state]

theorem writeTextCommand_stores (owns : s.owns p b i) (range : textRange offset count = true) (flag : ef.toNat ≤ 1)
    (state : (s.slot i).writable = none) (bytes : List Byte) :
    writeTextCommand p b offset count ef bytes (s.attach p) =
      answer (if 80 < offset.toNat + count.toNat then .okClamped else .ok)
        ((s.attach p).setSlot i ((s.slot i).written offset.toNat count.toNat (ef = 1) bytes)) := by
  simp [writeTextCommand, onSlot_owns owns, range, Nat.not_lt.2 flag, state]

end WriteTextInRange

/-- Settles O16: the argument tests first, then one case per answer of `Slot.writable`. -/
theorem writeTextStores : Obligations.WriteTextStores := by
  refine fun s p b i offset count ef bytes serves owns => ⟨fun outside => ?_, fun ho hc hc' flag fits => ?_⟩
  · have range : textRange offset count = false := by
      rw [Bool.eq_false_iff, ne_eq, textRange_iff]
      rintro ⟨ho, hc, hc'⟩
      rcases outside with h | rfl | h
      · omega
      · exact absurd hc (by decide)
      · omega
    exact State.servePort_refused serves (writeTextCommand_badArg owns range ef bytes)
  · have range : textRange offset count = true := (textRange_iff offset count).2 ⟨ho, hc, hc'⟩
    refine ⟨fun state => ?_, fun state hold => ?_, fun state => ?_, fun state => ?_⟩
    · have writable := Slot.writable_eq_none (state.imp_right (Or.imp_right And.right))
      have stored := writeTextCommand_stores owns range flag writable bytes
      simp only [Slot.written, storeText_eq fits, decide_eq_true_eq] at stored
      exact State.servePort_next serves stored
    · exact State.servePort_refused serves
        (writeTextCommand_refuses owns range flag (Slot.writable_notHeld state hold) bytes)
    · exact State.servePort_refused serves
        (writeTextCommand_refuses owns range flag (Slot.writable_busy state) bytes)
    · exact State.servePort_refused serves
        (writeTextCommand_refuses owns range flag (Slot.writable_wrongState state) bytes)

/-! ## EDIT (R19) -/

/-- A chain in an end state, named by its head: what EDIT and REPOST of a chain ask for (R18, R19). -/
def State.endedChain (s : State) (i : SlotId) : Prop :=
  (s.slot i).chains ∧ (s.slot i).state ∈ [SlotState.done, .aborted, .failed] ∧ (s.slot i).chainHead = some i

/-- The test EDIT makes of a chain. -/
theorem State.endedChain_iff (s : State) (i : SlotId) :
    ((s.slot i).isChainKind && (s.slot i).state.isEnd && decide ((s.slot i).chainHead = some i)) = true ↔
      s.endedChain i := by
  simp [State.endedChain, and_assoc]

section Edit

variable {s : State} {p : Port} {b : Byte} {i : SlotId}

theorem editCommand_chain (owns : s.owns p b i) (ended : s.endedChain i) :
    editCommand p b (s.attach p) = answer .ok ((s.attach p).mapChain i fun y =>
      { y with state := .held, outcome := none, chainHead := none }) := by
  rw [editCommand, onSlot_owns owns]
  exact if_pos ((s.endedChain_iff i).2 ended)

theorem editCommand_armed (owns : s.owns p b i) (receive : (s.slot i).kind = some .receive)
    (armed : (s.slot i).state = .armed) :
    editCommand p b (s.attach p) = answer .ok ((s.attach p).setSlot i { s.slot i with state := .held }) := by
  simp [editCommand, onSlot_owns owns, receive, armed]

theorem editCommand_wrongState (owns : s.owns p b i) (not_ended : ¬s.endedChain i)
    (not_armed : ¬((s.slot i).kind = some .receive ∧ (s.slot i).state = .armed)) :
    editCommand p b (s.attach p) = refuse .wrongState (s.attach p) := by
  rw [editCommand, onSlot_owns owns]
  exact (if_neg (mt (s.endedChain_iff i).1 not_ended)).trans (if_neg fun armed =>
    not_armed ((Bool.and_eq_true_iff.1 armed).imp of_decide_eq_true of_decide_eq_true))

end Edit

/-! ## ARM (R22) -/

section Arm

variable {s : State} {p : Port} {b : Byte} {i : SlotId}

/-- ARM is for RECEIVE slots in HELD and PENDING alone (R22). -/
theorem armCommand_wrongState (owns : s.owns p b i)
    (closed : ¬((s.slot i).kind = some .receive ∧ ((s.slot i).state = .held ∨ (s.slot i).state = .pending))) :
    armCommand p b (s.attach p) = refuse .wrongState (s.attach p) := by
  rw [armCommand, onSlot_owns owns]
  by_cases receive : (s.slot i).kind = some .receive
  · refine (if_neg (not_not.2 receive)).trans ?_
    split
    · next held => exact absurd ⟨receive, .inl held⟩ closed
    · next pending => exact absurd ⟨receive, .inr pending⟩ closed
    · rfl
  · exact if_pos receive

theorem armCommand_held (owns : s.owns p b i) (receive : (s.slot i).kind = some .receive)
    (held : (s.slot i).state = .held) :
    armCommand p b (s.attach p) = answer .ok ((s.attach p).setSlot i { s.slot i with state := .armed }) := by
  simp [armCommand, onSlot_owns owns, receive, held]

theorem armCommand_busy (owns : s.owns p b i) (receive : (s.slot i).kind = some .receive)
    (pending : (s.slot i).state = .pending) (job : (s.slot i).job = .printing) :
    armCommand p b (s.attach p) = refuse .busy (s.attach p) := by
  simp [armCommand, onSlot_owns owns, receive, pending, job]

theorem armCommand_waiting (owns : s.owns p b i) (receive : (s.slot i).kind = some .receive)
    (pending : (s.slot i).state = .pending) (job : (s.slot i).job = .waiting) :
    armCommand p b (s.attach p) = answer .ok (((s.attach p).setSlot i (s.slot i).opened).dropJob .auto i) := by
  simp [armCommand, onSlot_owns owns, receive, pending, job]

theorem armCommand_pending (owns : s.owns p b i) (receive : (s.slot i).kind = some .receive)
    (pending : (s.slot i).state = .pending) (job : (s.slot i).job = .absent) :
    armCommand p b (s.attach p) = answer .ok ((s.attach p).setSlot i (s.slot i).opened) := by
  simp [armCommand, onSlot_owns owns, receive, pending, job]

end Arm

/-- Settles O20: one equation of the handler per case of R19 and R22. -/
theorem editAndArm : Obligations.EditAndArm := by
  refine fun s p b i serves owns => ⟨fun ended => ?_, fun receive armed => ?_, fun not_ended not_armed => ?_,
    fun closed => ?_, fun receive held => ?_, fun receive pending => ⟨fun job => ?_, fun job => ?_, fun job => ?_⟩⟩
  · exact State.servePort_next serves (editCommand_chain owns ended)
  · exact State.servePort_next serves (editCommand_armed owns receive armed)
  · exact State.servePort_refused serves (editCommand_wrongState owns not_ended not_armed)
  · exact State.servePort_refused serves (armCommand_wrongState owns closed)
  · exact State.servePort_next serves (armCommand_held owns receive held)
  · exact State.servePort_refused serves (armCommand_busy owns receive pending job)
  · exact State.servePort_next serves (armCommand_waiting owns receive pending job)
  · exact State.servePort_next serves (armCommand_pending owns receive pending job)

end Sys2Proof.Machine
end

section
/-! PROOF. The keyboard's ports (chapter 6): TAKE FOCUS, GIVE FOCUS, the SELECT key and READ KEYS. One equation of the
handler per case of the rule; what READ KEYS removes is an induction over the queue. -/

namespace Sys2Proof.Machine

open Sys2Proof

/-! ## TAKE FOCUS and GIVE FOCUS (R124, R125) -/

section Focus

variable {s : State} {p q : Port}

theorem takeFocusCommand_free (free : s.kbd.focus = none) :
    takeFocusCommand p s = answer .ok { s with kbd.focus := some p, kbd.wanted := none } := by
  simp only [takeFocusCommand, free]

theorem takeFocusCommand_holder (holds : s.kbd.focus = some p) : takeFocusCommand p s = answer .ok s := by
  simp only [takeFocusCommand, holds, if_true]

/-- The other port keeps the focus and is told that it is wanted (R124). -/
theorem takeFocusCommand_held (held : s.kbd.focus = some (otherPort p)) :
    takeFocusCommand p s = answer .focusHeld ({ s with kbd.wanted := some p }.raise (otherPort p)
      (.keys .focusWanted (some (otherPort p)) (s.keyCount (otherPort p)))) := by
  simp only [takeFocusCommand, held, otherPort_ne, if_false, State.raiseKeys]
  rfl

theorem giveFocusCommand_wrongState (others : s.kbd.focus ≠ some p) : giveFocusCommand p s = refuse .wrongState s :=
  if_neg others

/-- With no port waiting for it, the focus given up goes to none (R125). -/
theorem giveFocusCommand_frees (holds : s.kbd.focus = some p) (unwanted : s.kbd.wanted = none) :
    giveFocusCommand p s = answer .ok { s with kbd.focus := none } := by
  simp only [giveFocusCommand, holds, if_true, State.passFocus, unwanted]

/-- The focus given up goes to the port that wants it, which is told (R125). -/
theorem giveFocusCommand_passes (holds : s.kbd.focus = some p) (wanted : s.kbd.wanted = some q) :
    giveFocusCommand p s = answer .ok ({ s with kbd.focus := some q, kbd.wanted := none }.raise q
      (.keys .focusGranted (some q) (s.keyCount q))) := by
  simp only [giveFocusCommand, holds, if_true, State.passFocus, wanted]
  rfl

/-! ## The SELECT key (R126) -/

/-- From a holder, SELECT tells the port that loses the focus and then the port that gains it. -/
theorem State.selectFocus_holder (holds : s.kbd.focus = some p) : s.selectFocus q =
    ({ s with kbd.focus := some q, kbd.wanted := none }.raise p (.keys .focusLost (some q) (s.keyCount p))).raise q
      (.keys .focusGranted (some q) (s.keyCount q)) := by
  simp only [State.selectFocus, holds]
  rfl

/-- From no holder, SELECT tells the port that gains the focus alone. -/
theorem State.selectFocus_free (free : s.kbd.focus = none) : s.selectFocus q =
    { s with kbd.focus := some q, kbd.wanted := none }.raise q (.keys .focusGranted (some q) (s.keyCount q)) := by
  simp only [State.selectFocus, free]
  rfl

theorem State.selectKey_holder (s : State) (holds : s.kbd.focus = some p)
    (attached : s.kbd.attached.get (otherPort p) = true) : s.selectKey = s.selectFocus (otherPort p) := by
  simp only [State.selectKey, holds, attached, if_true]

theorem State.selectKey_free_a (s : State) (free : s.kbd.focus = none) (a : s.kbd.attached.a = true) :
    s.selectKey = s.selectFocus .a := by
  simp only [State.selectKey, free, a, if_true]

theorem State.selectKey_free_b (s : State) (free : s.kbd.focus = none) (a : s.kbd.attached.a = false)
    (b : s.kbd.attached.b = true) : s.selectKey = s.selectFocus .b := by
  simp only [State.selectKey, free, a, b, Bool.false_eq_true, if_false, if_true]

/-- A holder whose other port is not attached keeps the focus. -/
theorem State.selectKey_alone (s : State) (holds : s.kbd.focus = some p)
    (alone : s.kbd.attached.get (otherPort p) = false) : s.selectKey = { s with kbd.wanted := none }.beep := by
  simp only [State.selectKey, holds, alone, Bool.false_eq_true, if_false]

theorem State.selectKey_unattached (s : State) (free : s.kbd.focus = none) (a : s.kbd.attached.a = false)
    (b : s.kbd.attached.b = false) : s.selectKey = { s with kbd.wanted := none }.beep := by
  simp only [State.selectKey, free, a, b, Bool.false_eq_true, if_false]

/-- The state in which a press of SELECT moves the focus: the position is down and the repeat has ended (R112, R117). -/
def State.selectPressed (s : State) : State :=
  { s with kbd.down := s.kbd.down ++ [64], kbd.repeatKey := none, kbd.repeatTimer := none }

/-- Position 64 is SELECT: its press joins the down set, ends the repeat and moves the focus (R115, R126). -/
theorem State.pressKey_select (s : State) : s.pressKey 64 = s.selectPressed.selectKey := rfl

end Focus

/-- Settles O44: one equation of the handler per row of the tables of R124 to R126. -/
theorem focusMoves : Obligations.FocusMoves := by
  refine ⟨fun s p serves => ⟨fun free => ?_, fun holds => ?_, fun held => ?_, fun others => ?_,
    fun holds unwanted => ?_, fun q holds wanted => ?_⟩, fun s => ⟨fun p holds attached => ?_, fun free a => ?_,
    fun free a b => ?_, fun p holds alone => ?_, fun free a b => ?_⟩⟩
  · exact State.servePort_next serves (takeFocusCommand_free free)
  · exact State.servePort_next serves (takeFocusCommand_holder holds)
  · exact State.servePort_next serves (takeFocusCommand_held held)
  · exact State.servePort_refused serves (giveFocusCommand_wrongState others)
  · exact State.servePort_next serves (giveFocusCommand_frees holds unwanted)
  · exact State.servePort_next serves (giveFocusCommand_passes holds wanted)
  · exact s.pressKey_select.trans
      ((s.selectPressed.selectKey_holder holds attached).trans (State.selectFocus_holder holds))
  · exact s.pressKey_select.trans
      ((s.selectPressed.selectKey_free_a free a).trans (State.selectFocus_free free))
  · exact s.pressKey_select.trans
      ((s.selectPressed.selectKey_free_b free a b).trans (State.selectFocus_free free))
  · exact s.pressKey_select.trans (s.selectPressed.selectKey_alone holds alone)
  · exact s.pressKey_select.trans (s.selectPressed.selectKey_unattached free a b)

/-! ## READ KEYS (R122) -/

/-- The entries removed from a queue are the first `n` of the port's own. -/
theorem dropTagged_filter_own (p : Port) (n : Nat) (l : List KeyEntry) :
    (dropTagged p n l).filter (fun e => e.tag = p) = (l.filter fun e => e.tag = p).drop n := by
  induction n, l using dropTagged.induct p with
  | case1 l => simp [dropTagged]
  | case2 n hn => simp [dropTagged]
  | case3 n e l own ih => simp [dropTagged, own, ih]
  | case4 n e l other ih => simp [dropTagged, other, ih]

/-- The other port's entries stay, in their order. -/
theorem dropTagged_filter_other (p : Port) (n : Nat) (l : List KeyEntry) :
    (dropTagged p n l).filter (fun e => e.tag ≠ p) = l.filter fun e => e.tag ≠ p := by
  induction n, l using dropTagged.induct p with
  | case1 l => simp [dropTagged]
  | case2 n hn => simp [dropTagged]
  | case3 n e l own ih => simpa [dropTagged, own] using ih
  | case4 n e l other ih => simpa [dropTagged, other] using ih

/-- What stays of the queue keeps its order, across both ports. -/
theorem dropTagged_sublist (p : Port) (n : Nat) (l : List KeyEntry) : (dropTagged p n l).Sublist l := by
  induction n, l using dropTagged.induct p with
  | case1 l => simp [dropTagged]
  | case2 n hn => simp [dropTagged]
  | case3 n e l own ih => simpa [dropTagged, own] using ih.cons e
  | case4 n e l other ih => simpa [dropTagged, other] using ih.cons_cons e

section ReadKeys

variable {s : State} {p : Port} {count : Byte}

theorem readKeysCommand_badArg (outside : count = 0 ∨ 8 < count.toNat) :
    readKeysCommand p count s = refuse .badArg s := by
  rcases outside with rfl | above
  · rfl
  · simp [readKeysCommand, above]

theorem readKeysCommand_empty (least : 1 ≤ count.toNat) (most : count.toNat ≤ 8)
    (none_own : (s.kbd.queue.filter fun e => e.tag = p) = []) : readKeysCommand p count s = refuse .empty s := by
  simp only [readKeysCommand, Nat.not_lt.2 least, Nat.not_lt.2 most, none_own]
  rfl

/-- READ KEYS takes the smaller of its count and the number of the port's entries, oldest first. -/
theorem readKeysCommand_takes (least : 1 ≤ count.toNat) (most : count.toNat ≤ 8) {mine : List KeyEntry} {n : Nat}
    (own : (s.kbd.queue.filter fun e => e.tag = p) = mine) (some_own : mine ≠ [])
    (taken : min count.toNat mine.length = n) :
    readKeysCommand p count s = ({ s with kbd.queue := dropTagged p n s.kbd.queue },
      ⟨.ok, byteOf n :: (mine.take n).flatMap keyEntryBytes⟩) := by
  have oldest : mine.take count.toNat = mine.take n := by rw [← taken, ← List.take_eq_take_min]
  have length : (mine.take n).length = n := by simp [← taken]
  simp [readKeysCommand, Nat.not_lt.2 least, Nat.not_lt.2 most, own, some_own, oldest, length]

end ReadKeys

/-- Settles O45: the handler's three outcomes, and what `dropTagged` leaves of the queue. -/
theorem readKeysTakesTheOwnEntries : Obligations.ReadKeysTakesTheOwnEntries := by
  refine fun s p count serves => ⟨fun outside => ?_, fun least most => ⟨fun none_own => ?_, fun some_own => ?_⟩⟩
  · exact State.servePort_refused serves (readKeysCommand_badArg outside)
  · exact State.servePort_refused serves (readKeysCommand_empty least most none_own)
  · exact ⟨_, State.servePort_next serves (readKeysCommand_takes least most rfl some_own rfl),
      dropTagged_filter_own p _ _, dropTagged_filter_other p _ _, dropTagged_sublist p _ _⟩

end Sys2Proof.Machine
end

section
/-! PROOF. The strobe times and the dot limit of a row (chapter 8, R154 and R155). The model's clamps are brought to
`max` and `min` once; each quantity of R154 and R155 then has its equation, and its range follows from the clamp. -/

namespace Sys2Proof.Machine

open Sys2Proof

/-! ## Clamping -/

theorem clampNat_eq_max_min {lo hi : Nat} (ordered : lo ≤ hi) (v : Nat) : clampNat lo hi v = max lo (min hi v) := by
  simp only [clampNat]
  split_ifs <;> omega

theorem clampInt_eq_max_min {lo hi : Int} (ordered : lo ≤ hi) (v : Int) : clampInt lo hi v = max lo (min hi v) := by
  simp only [clampInt]
  split_ifs <;> omega

/-! ## The quantities of R154 and R155 -/

theorem strobeBase_eq (th : Int) : strobeBase th = (900 - 8 * (max (-10) (min 70 th) - 25)).toNat := by
  rw [strobeBase, clampInt_eq_max_min (by decide)]

theorem clampV_eq (v : Nat) : clampV v = max 4200 (min 8000 v) := clampNat_eq_max_min (by decide) v

theorem strobeFull_eq (v : Nat) (th : Int) (density : Nat) :
    strobeFull v th density =
      max 250 (min 3000 (strobeBase th * 36000000 / (clampV v * clampV v) * (48 + 2 * density) / 64)) :=
  clampNat_eq_max_min (by decide) _

theorem dotLimit_eq (v : Nat) : dotLimit v = max 40 (min 160 ((clampV v - 4000) / 12)) :=
  clampNat_eq_max_min (by decide) _

/-- A full strobe time of 250 µs or more gives a repeat time of at least 187 µs (R154). -/
theorem le_strobeRepeat {td : Nat} (least : 250 ≤ td) : 187 ≤ strobeRepeat td := by
  rw [strobeRepeat]
  omega

/-- Phase 2 of a group lasts at least 63 µs (R154). -/
theorem le_sub_strobeRepeat {td : Nat} (least : 250 ≤ td) : 63 ≤ td - strobeRepeat td := by
  rw [strobeRepeat]
  omega

/-- A block of 40 dots holds at most 40 black ones, so it fits into a group by itself (R155). -/
theorem blockCount_le (p : Dots) (b : Nat) : blockCount p b ≤ 40 :=
  (List.length_filter_le _ _).trans_eq List.length_range

/-- Settles O51: the ranges of Tb, Ts and Td − Ts follow from the clamps of Th and Td; a fired row records the very
values computed. -/
theorem strobeTimesAndDotLimit : Obligations.StrobeTimesAndDotLimit := by
  refine ⟨fun v th density _ => ?_, blockCount_le, fun s => ⟨_, rfl, rfl, rfl, rfl, rfl, rfl⟩⟩
  intro t w base td
  have clamped : -10 ≤ t ∧ t ≤ 70 := ⟨le_max_left _ _, max_le (by decide) (min_le_left _ _)⟩
  have cool (fires : th < 65) : t ≤ 64 := max_le (by decide) ((min_le_right _ _).trans (by omega))
  have base_eq : base = 900 - 8 * (t - 25) := rfl
  have full : strobeFull v th density = td := by rw [strobeFull_eq, strobeBase_eq, clampV_eq]
  have least : 250 ≤ td := le_max_left _ _
  have limit : dotLimit v = max 40 (min 160 ((w - 4000) / 12)) := by rw [dotLimit_eq, clampV_eq]
  refine ⟨by omega, by omega, fun fires => ?_, full, congrArg strobeRepeat full, le_strobeRepeat least,
    le_sub_strobeRepeat least, limit⟩
  have := cool fires
  omega

end Sys2Proof.Machine
end

section
/-! PROOF. The event units (chapter 10): what an event, an alert and the interrupt output come to, and the five commands
of a unit. READ EVENT turns on the ring of R178: the report is that of the first ready source behind the pointer. -/

namespace Sys2Proof.Machine

open Sys2Proof

/-! ## Numbers and bits -/

/-- A number of flag bits has the booleans as its bits, bit 0 first. -/
theorem flagBits_testBit (l : List Bool) (i : Nat) : (flagBits l).testBit i = l.getD i false := by
  induction l generalizing i with
  | nil => simp [flagBits]
  | cons b bs ih =>
    cases i with
    | zero => cases b <;> simp [flagBits, Nat.testBit_zero, Nat.add_mod]
    | succ i =>
      have half : flagBits (b :: bs) / 2 = flagBits bs := by
        simp only [flagBits]
        split <;> omega
      rw [Nat.testBit_succ, half, ih, List.getD_cons_succ]

theorem bit8_eq_two_pow (i : Nat) : bit8 i = BitVec.ofNat 8 (2 ^ i) := by
  apply BitVec.eq_of_toNat_eq
  simp [bit8, Nat.shiftLeft_eq]

@[simp] theorem detailBytes_length (d : EventDetail) : (detailBytes d).length = 3 := by
  cases d <;> rfl

/-- A source number in a byte, as the argument of ACK EVENT names it (R179). -/
theorem sourceArg_of {b : Byte} {n : Fin 8} (h : b.toNat = n.val) : sourceArg b = some n := by
  unfold sourceArg
  split
  · exact congrArg some (Fin.ext h)
  · omega

/-- A byte is its own number as a byte. -/
theorem byteOf_of_toNat {b : Byte} {n : Nat} (h : b.toNat = n) : byteOf n = b := by
  rw [← h, byteOf, BitVec.ofNat_toNat, BitVec.setWidth_eq]

/-! ## Alerts (R180) -/

@[simp] theorem PerPort.set_get {α : Type} (x : PerPort α) (p : Port) : x.set p (x.get p) = x := by
  cases p <;> rfl

theorem State.alert_disabled {s : State} {p : Port} {c : Alert}
    (disabled : (s.events.get p).enables.getLsbD c.index = false) : s.alert p c = s := by
  simp [State.alert, EventUnit.takeAlert, disabled]

/-- An enabled alert is latched, and its event carries the set as it is latched then. -/
theorem EventUnit.takeAlert_enabled {u : EventUnit} {c : Alert} (enabled : u.enables.getLsbD c.index = true) :
    u.takeAlert c = { u with latched := u.latched ||| bit8 c.index }.raise (.alert c (u.latched ||| bit8 c.index)) :=
  if_pos enabled

/-! ## The interrupt output (R176) -/

section Unit

variable {u : EventUnit} {n : Fin 8} {o : Occurrence}

theorem EventUnit.ready_iff : u.ready n = true ↔ u.sources[n] ≠ none ∧ u.masks.getLsbD n.val = false := by
  simp [EventUnit.ready, Option.isSome_iff_ne_none]

theorem EventUnit.ready_eq_false_iff : u.ready n = false ↔ u.sources[n] = none ∨ u.masks.getLsbD n.val = true := by
  rw [← Bool.not_eq_true, EventUnit.ready_iff, not_and_or, not_not, Bool.not_eq_false]

theorem EventUnit.asserted_iff : u.asserted = true ↔
    ∃ n : Fin 8, u.sources[n] ≠ none ∧ u.masks.getLsbD n.val = false := by
  simp only [EventUnit.asserted, List.any_eq_true, List.mem_finRange, true_and, EventUnit.ready_iff]

theorem State.interruptAsserted_iff {s : State} {p : Port} : s.interruptAsserted p = true ↔
    s.power ≠ .held ∧
      ∃ n : Fin 8, (s.events.get p).sources[n] ≠ none ∧ (s.events.get p).masks.getLsbD n.val = false := by
  simp only [State.interruptAsserted, Bool.and_eq_true, decide_eq_true_eq, EventUnit.asserted_iff]

/-! ## The event report (R178) -/

theorem EventUnit.pendingByte_getLsbD (n : Fin 8) : u.pendingByte.getLsbD n.val = (u.sources[n]).isSome := by
  rw [EventUnit.pendingByte, byteOf, BitVec.getLsbD_ofNat, flagBits_testBit]
  simp

/-- The ring holds every source. -/
theorem EventUnit.mem_ring (u : EventUnit) (n : Fin 8) : n ∈ u.ring := by
  refine List.mem_map.2 ⟨n - 1 - u.pointer, List.mem_finRange _, ?_⟩
  abel

/-- A highest-priority source exists exactly when the interrupt output is asserted. -/
theorem EventUnit.highest_isSome : u.highest.isSome = u.asserted := by
  rw [Bool.eq_iff_iff, EventUnit.highest, List.find?_isSome, EventUnit.asserted, List.any_eq_true]
  simp [EventUnit.mem_ring]

/-- The highest-priority source is the first ready one behind the pointer. -/
theorem EventUnit.highest_eq_first {k : Fin 8} (ready : u.ready (u.pointer + 1 + k) = true)
    (first : ∀ j < k, u.ready (u.pointer + 1 + j) = false) : u.highest = some (u.pointer + 1 + k) := by
  have order (j : Fin 8) : u.pointer + j + 1 = u.pointer + 1 + j := add_right_comm ..
  rw [EventUnit.highest, List.find?_eq_some_iff_getElem]
  refine ⟨ready, k.val, by simp [EventUnit.ring], by simp [EventUnit.ring, order], fun j below => ?_⟩
  simpa [EventUnit.ring, order] using first ⟨j, by omega⟩ below

theorem EventUnit.report_none (none_ready : u.highest = none) :
    u.report = ⟨.empty, [0xFF, 0, u.pendingByte, u.masks, 0xFF, 0xFF, 0xFF]⟩ := by
  simp only [EventUnit.report, none_ready]
  rfl

theorem EventUnit.report_some (highest : u.highest = some n) (pending : u.sources[n] = some o) :
    u.report = ⟨.ok, byteOf n.val :: byteOf o.count :: u.pendingByte :: u.masks :: detailBytes o.detail⟩ := by
  simp only [EventUnit.report, highest, EventUnit.occurrences, pending]
  rfl

/-- The source reported is pending, so the report is one of two: EMPTY, or an occurrence. -/
theorem EventUnit.report_cases (u : EventUnit) :
    u.report = ⟨.empty, [0xFF, 0, u.pendingByte, u.masks, 0xFF, 0xFF, 0xFF]⟩ ∧ u.asserted = false ∨
    ∃ (n : Fin 8) (o : Occurrence), u.asserted = true ∧
      u.report = ⟨.ok, byteOf n.val :: byteOf o.count :: u.pendingByte :: u.masks :: detailBytes o.detail⟩ := by
  cases highest : u.highest with
  | none => exact .inl ⟨EventUnit.report_none highest, by simp [← EventUnit.highest_isSome, highest]⟩
  | some n =>
    have ready : u.ready n = true := List.find?_some highest
    obtain ⟨flag, -⟩ := EventUnit.ready_iff.1 ready
    obtain ⟨o, pending⟩ := Option.ne_none_iff_exists'.1 flag
    exact .inr ⟨n, o, by simp [← EventUnit.highest_isSome, highest], EventUnit.report_some highest pending⟩

/-- With a source or with none to report, the pending flags and the masks stand at the same place of the 7 bytes. -/
theorem EventUnit.report_data (u : EventUnit) : ∃ (source count : Byte) (detail : List Byte), detail.length = 3 ∧
    u.report.data = source :: count :: u.pendingByte :: u.masks :: detail := by
  obtain ⟨report, -⟩ | ⟨n, o, -, report⟩ := u.report_cases <;> rw [report]
  · exact ⟨_, _, _, rfl, rfl⟩
  · exact ⟨_, _, _, detailBytes_length _, rfl⟩

theorem EventUnit.report_code : u.report.code = .ok ∨ u.report.code = .empty := by
  obtain ⟨report, -⟩ | ⟨n, o, -, report⟩ := u.report_cases <;> simp [report]

theorem EventUnit.report_ok_iff : u.report.code = .ok ↔ u.asserted = true := by
  obtain ⟨report, released⟩ | ⟨n, o, asserted, report⟩ := u.report_cases
  · simp [report, released]
  · simp [report, asserted]

theorem EventUnit.report_empty_source (empty : u.report.code = .empty) : u.report.data[0]? = some 0xFF := by
  obtain ⟨report, -⟩ | ⟨n, o, -, report⟩ := u.report_cases
  · simp [report]
  · simp [report] at empty

end Unit

/-! ## The commands (R177 to R179, R181, R182) -/

section Commands

variable {s : State} {p : Port}

theorem readAlertsCommand_empty (clear : (s.events.get p).latched = 0) :
    readAlertsCommand p s = refuse .empty s :=
  if_pos clear

theorem readAlertsCommand_takes (latched : (s.events.get p).latched ≠ 0) : readAlertsCommand p s =
    (s.setUnit p { s.events.get p with latched := 0 }, ⟨.ok, [(s.events.get p).latched]⟩) :=
  if_neg latched

theorem ackEventCommand_badArg {b : Byte} (outside : 8 ≤ b.toNat) : ackEventCommand p b s = refuse .badArg s := by
  simp [ackEventCommand, sourceArg, Nat.not_lt.2 outside]

theorem ackEventCommand_empty {b : Byte} {n : Fin 8} (source : b.toNat = n.val)
    (clear : (s.events.get p).sources[n] = none) : ackEventCommand p b s = refuse .empty s := by
  simp only [ackEventCommand, sourceArg_of source, clear]

/-- ACK EVENT answers with the occurrence it clears. -/
theorem ackEventCommand_clears {b : Byte} {n : Fin 8} {o : Occurrence} (source : b.toNat = n.val)
    (pending : (s.events.get p).sources[n] = some o) : ackEventCommand p b s =
      (s.setUnit p ((s.events.get p).acknowledge n), ⟨.ok, b :: byteOf o.count :: detailBytes o.detail⟩) := by
  simp only [ackEventCommand, sourceArg_of source, pending, byteOf_of_toNat source]

end Commands

/-- Settles O58: one equation per outcome of an event, an alert and each handler; the report of READ EVENT by the first
ready source of the ring. -/
theorem eventUnits : Obligations.EventUnits := by
  refine ⟨fun s p => ⟨fun d => rfl, fun c => State.alert_disabled, fun c enabled => ?_, State.interruptAsserted_iff⟩,
    fun s p serves => ⟨fun m => ?_, fun m => ?_, fun clear => ?_, fun latched => ?_, fun b outside => ?_,
      fun b n source => ⟨fun clear => ?_, fun o pending => ?_⟩, ?_⟩⟩
  · rw [State.alert, EventUnit.takeAlert_enabled enabled, bit8_eq_two_pow]
    rfl
  · exact State.servePort_next serves rfl
  · exact State.servePort_next serves rfl
  · exact State.servePort_refused serves (readAlertsCommand_empty (s := s.attach p) clear)
  · exact State.servePort_next serves (readAlertsCommand_takes (s := s.attach p) latched)
  · exact State.servePort_refused serves (ackEventCommand_badArg outside)
  · exact State.servePort_refused serves (ackEventCommand_empty (s := s.attach p) source clear)
  · exact ⟨_, detailBytes_length _, rfl,
      State.servePort_next serves (ackEventCommand_clears (s := s.attach p) source pending)⟩
  · obtain ⟨source, count, detail, length, data⟩ := (s.events.get p).report_data
    refine ⟨(s.events.get p).report, State.servePort_next serves rfl, by simp [data, length],
      ⟨_, by simp [data], EventUnit.pendingByte_getLsbD⟩, by simp [data], EventUnit.report_code,
      EventUnit.report_ok_iff.trans EventUnit.asserted_iff, EventUnit.report_empty_source,
      fun k o pending unmasked first => ?_⟩
    have ready : (s.events.get p).ready ((s.events.get p).pointer + 1 + k) = true :=
      EventUnit.ready_iff.2 ⟨by simp [pending], unmasked⟩
    have highest := EventUnit.highest_eq_first ready fun j below => EventUnit.ready_eq_false_iff.2 (first j below)
    rw [EventUnit.report_some highest pending]
    exact ⟨rfl, rfl, rfl⟩

end Sys2Proof.Machine
end

section
/-! PROOF. The firing groups of a row (R156). The greedy scan is followed block by block: what it has open, and what the
groups it still gives are. -/

namespace Sys2Proof.Machine

open Sys2Proof

/-! ## The dots of a set of strobes -/

/-- The dots a set of strobes drives, as a sum over the blocks. -/
theorem groupDots_eq_sum (p : Dots) (g : BitVec 16) :
    groupDots p g = ∑ b ∈ Finset.range 16, if g.getLsbD b then blockCount p b else 0 := by
  rw [← Finset.sum_filter]
  simp [groupDots, Finset.sum, Finset.filter, Finset.range, Multiset.range]

theorem getLsbD_strobeOf {b : Nat} (inside : b < 16) (c : Nat) : (strobeOf b).getLsbD c = decide (c = b) := by
  by_cases h : c = b
  · subst h; simp [strobeOf, inside]
  · simp only [strobeOf, BitVec.getLsbD_shiftLeft, BitVec.getLsbD_one, h, decide_false]
    simp; omega

@[simp] theorem groupDots_zero (p : Dots) : groupDots p 0 = 0 := by simp [groupDots_eq_sum]

theorem groupDots_strobeOf (p : Dots) {b : Nat} (inside : b < 16) : groupDots p (strobeOf b) = blockCount p b := by
  simp [groupDots_eq_sum, getLsbD_strobeOf inside, inside]

/-- A block joined to a set of strobes adds its dots. -/
theorem groupDots_or_strobeOf (p : Dots) {g : BitVec 16} {b : Nat} (inside : b < 16) (fresh : g.getLsbD b = false) :
    groupDots p (g ||| strobeOf b) = groupDots p g + blockCount p b := by
  rw [← groupDots_strobeOf p inside]
  simp only [groupDots_eq_sum, ← Finset.sum_add_distrib]
  refine Finset.sum_congr rfl fun c _ => ?_
  by_cases h : c = b
  · subst h; simp [fresh, getLsbD_strobeOf inside]
  · simp [getLsbD_strobeOf inside, h]

/-! ## The scan -/

/-- What the scan has open before block `b`: blocks below `b` with black dots, their dots counted within the limit. -/
structure OpenGroup (p : Dots) (nmax b : Nat) (strobes : BitVec 16) (total : Nat) : Prop where
  below : ∀ c, strobes.getLsbD c = true → c < b ∧ blockCount p c ≠ 0
  counted : groupDots p strobes = total
  limit : total ≤ nmax
  closed : total = 0 → strobes = 0

/-- The groups the scan gives from block `b` on with `strobes` open: all of R156 about them. -/
structure ScanGroups (p : Dots) (nmax b : Nat) (strobes : BitVec 16) (total : Nat) (gs : List (BitVec 16)) : Prop where
  covers : ∀ c < 16, (∃ g ∈ gs, g.getLsbD c = true) ↔ strobes.getLsbD c = true ∨ (b ≤ c ∧ blockCount p c ≠ 0)
  ordered : gs.Pairwise fun g h => ∀ c d : Nat, g.getLsbD c = true → h.getLsbD d = true → c < d
  dots : ∀ g ∈ gs, groupDots p g ≤ nmax ∧ groupDots p g ≠ 0
  greedy : ∀ k g h, gs[k]? = some g → gs[k + 1]? = some h → ∀ c : Nat, h.getLsbD c = true →
    (∀ d < c, h.getLsbD d = false) → nmax < groupDots p g + blockCount p c
  extends_open : total ≠ 0 → ∃ g rest, gs = g :: rest ∧ ∀ c < b, g.getLsbD c = strobes.getLsbD c
  size : gs.length + b ≤ 16 + if total = 0 then 0 else 1

variable {p : Dots} {nmax b total : Nat} {strobes : BitVec 16}

/-- A block opened alone. -/
theorem OpenGroup.single (inside : b < 16) (black : blockCount p b ≠ 0) (fits : blockCount p b ≤ nmax) :
    OpenGroup p nmax (b + 1) (strobeOf b) (blockCount p b) where
  below c h := by
    obtain rfl : c = b := by simpa [getLsbD_strobeOf inside] using h
    exact ⟨Nat.lt_succ_self _, black⟩
  counted := groupDots_strobeOf p inside
  limit := fits
  closed h := absurd h black

/-- A block without black dots passed by. -/
theorem OpenGroup.pass (o : OpenGroup p nmax b strobes total) : OpenGroup p nmax (b + 1) strobes total :=
  { o with below := fun c h => ⟨Nat.lt_succ_of_lt (o.below c h).1, (o.below c h).2⟩ }

theorem OpenGroup.fresh (o : OpenGroup p nmax b strobes total) {c : Nat} (h : b ≤ c) : strobes.getLsbD c = false := by
  by_contra set
  exact absurd (o.below c (by simpa using set)).1 (Nat.not_lt.2 h)

/-- A block joined to the open group. -/
theorem OpenGroup.join (o : OpenGroup p nmax b strobes total) (inside : b < 16) (black : blockCount p b ≠ 0)
    (fits : total + blockCount p b ≤ nmax) :
    OpenGroup p nmax (b + 1) (strobes ||| strobeOf b) (total + blockCount p b) where
  below c h := by
    by_cases hc : c = b
    · subst hc; exact ⟨Nat.lt_succ_self _, black⟩
    · have : strobes.getLsbD c = true := by simpa [getLsbD_strobeOf inside, hc] using h
      exact ⟨Nat.lt_succ_of_lt (o.below c this).1, (o.below c this).2⟩
  counted := by rw [groupDots_or_strobeOf p inside (o.fresh le_rfl), o.counted]
  limit := fits
  closed h := by omega

/-- The scan's groups from the rest of the blocks, by the four cases of R156. -/
theorem groupScan_groups (blocks : ∀ b, blockCount p b ≤ nmax) (n : Nat) (all : b + n = 16)
    (o : OpenGroup p nmax b strobes total) :
    ScanGroups p nmax b strobes total (groupScan nmax ((List.range' b n).map (blockCount p)) b strobes total) := by
  induction n generalizing b strobes total with
  | zero =>
    obtain rfl : b = 16 := by omega
    have none_left (c : Nat) (hc : c < 16) : ¬16 ≤ c := by omega
    by_cases empty : total = 0
    · have := o.closed empty
      subst empty this
      exact ⟨fun c hc => by simpa [groupScan] using fun h => absurd h (none_left c hc), by simp [groupScan],
        by simp [groupScan], by simp [groupScan], by simp, by simp [groupScan]⟩
    · have := o.limit
      have := o.counted
      simp only [groupScan, List.range'_zero, List.map_nil, empty, if_false]
      exact ⟨fun c hc => by simpa using fun h => absurd h (none_left c hc), by simp, by simp; omega,
        by simp, fun _ => ⟨strobes, [], rfl, fun _ _ => rfl⟩, by simp [empty]⟩
  | succ n ih =>
    have inside : b < 16 := by omega
    simp only [List.range'_succ, List.map_cons, groupScan]
    by_cases white : blockCount p b = 0
    · -- a block without black dots changes nothing
      have r := ih (by omega) o.pass
      rw [if_pos white]
      refine { r with
        covers := fun c hc => (r.covers c hc).trans (or_congr_right ?_)
        extends_open := fun h => ?_
        size := by have := r.size; omega }
      · refine ⟨fun ⟨h, h'⟩ => ⟨by omega, h'⟩, fun ⟨h, h'⟩ => ⟨?_, h'⟩⟩
        rcases Nat.lt_or_eq_of_le h with h | rfl
        · exact h
        · exact absurd white h'
      · obtain ⟨g, rest, e, same⟩ := r.extends_open h
        exact ⟨g, rest, e, fun c hc => same c (by omega)⟩
    rw [if_neg white]
    have splits (c : Nat) : (b ≤ c ∧ blockCount p c ≠ 0) ↔ c = b ∨ (b + 1 ≤ c ∧ blockCount p c ≠ 0) := by
      constructor
      · rintro ⟨h, h'⟩
        rcases Nat.lt_or_eq_of_le h with h | rfl
        · exact .inr ⟨h, h'⟩
        · exact .inl rfl
      · rintro (rfl | ⟨h, h'⟩)
        · exact ⟨le_rfl, white⟩
        · exact ⟨by omega, h'⟩
    have opened := OpenGroup.single inside white (blocks b)
    split
    · -- no group open: the block opens one
      next empty =>
      have := o.closed empty
      subst empty this
      have r := ih (by omega) opened
      refine { r with
        covers := fun c hc => (r.covers c hc).trans ?_
        extends_open := fun h => absurd rfl h
        size := by have := r.size; simp [white] at this; simp; omega }
      rw [splits, getLsbD_strobeOf inside]; simp
    next busy =>
    split
    · -- the block fits into the open group
      next fits =>
      have r := ih (by omega) (o.join inside white fits)
      refine { r with
        covers := fun c hc => (r.covers c hc).trans ?_
        extends_open := fun h => ?_
        size := by have := r.size; simp [white] at this; simp [busy]; omega }
      · rw [splits]; simp [getLsbD_strobeOf inside, or_assoc]
      · obtain ⟨g, rest, e, same⟩ := r.extends_open (by omega)
        refine ⟨g, rest, e, fun c hc => ?_⟩
        rw [same c (by omega)]
        simp [getLsbD_strobeOf inside, Nat.ne_of_lt hc]
    · -- the block would pass the limit: the open group ends before it
      next past =>
      have r := ih (by omega) opened
      obtain ⟨h0, rest, e, same⟩ := r.extends_open white
      rw [e] at r ⊢
      have from_b (h : BitVec 16) (mem : h ∈ h0 :: rest) (d : Nat) (set : h.getLsbD d = true) : b ≤ d := by
        by_cases hd : d < 16
        · rcases (r.covers d hd).1 ⟨h, mem, set⟩ with hs | ⟨hb, -⟩
          · have : d = b := by simpa [getLsbD_strobeOf inside] using hs
            omega
          · omega
        · simp [BitVec.getLsbD_of_ge h d (by omega)] at set
      refine ⟨fun c hc => ?_, List.pairwise_cons.2 ⟨fun h mem c d hc hd => ?_, r.ordered⟩, fun g mem => ?_, ?_,
        fun _ => ⟨_, _, rfl, fun _ _ => rfl⟩, by have := r.size; simp [white] at this; simp [busy]; omega⟩
      · rw [splits, List.exists_mem_cons_iff, r.covers c hc, getLsbD_strobeOf inside]; simp
      · exact Nat.lt_of_lt_of_le (o.below c hc).1 (from_b h mem d hd)
      · rcases List.mem_cons.1 mem with rfl | mem
        · have := o.limit
          have := o.counted
          omega
        · exact r.dots g mem
      · intro k g h hg hh c set lowest
        cases k with
        | zero =>
          obtain rfl : strobes = g := by simpa using hg
          obtain rfl : h0 = h := by simpa using hh
          have first : h0.getLsbD b = true := by rw [same b (by omega), getLsbD_strobeOf inside]; simp
          obtain rfl : c = b := by
            have ge := from_b h0 (by simp) c set
            by_contra hne
            simp [lowest b (by omega)] at first
          have := o.counted
          omega
        | succ k => exact r.greedy k g h (by simpa using hg) (by simpa using hh) c set lowest

/-- The firing groups of a row meet R156, with no group open before block 0. -/
theorem firingGroups_groups (p : Dots) {nmax : Nat} (least : 40 ≤ nmax) :
    ScanGroups p nmax 0 0 0 (firingGroups p nmax) := by
  have := groupScan_groups (fun b => (blockCount_le p b).trans least) 16 rfl
    (⟨by simp, groupDots_zero p, Nat.zero_le _, fun _ => rfl⟩ : OpenGroup p nmax 0 0 0)
  rwa [← List.range_eq_range'] at this

/-- Settles O52, by the scan from block 0 with no group open. -/
theorem firingGroupsOfARow : Obligations.FiringGroupsOfARow := by
  intro p nmax least
  have r := firingGroups_groups p least
  exact ⟨fun b hb => by simpa using r.covers b hb, r.ordered, r.dots, r.greedy, by simpa using r.size⟩

end Sys2Proof.Machine
end

section
/-! PROOF. What every step keeps: the invariants of slot 0 (R1, R2), the queues (section 4.6, R105, R121, R131), the
head (R153 to R158) and the counts (R82, R174), and the queue of waiting commands. `State.Keeps r s` says that all of
them come through from `r` to `s`; there is one rule per operation of the model, in the order of the model's text. -/

namespace Sys2Proof.Machine

open Sys2Proof

/-! ## The invariants, and what they speak of -/

/-- The occurrences at both units and the line counters are in range (R82, R174). -/
structure CountsInRange (s : State) : Prop where
  a : s.events.a.countsInRange
  b : s.events.b.countsInRange
  counters : s.parser.counters.bounded

/-- What `BuffersBounded` speaks of. -/
def State.queues (s : State) : List RxByte × Flow × List Reply × List KeyChar × List KeyEntry × List KeyPos × List Byte × Nat :=
  (s.parser.fifo, s.parser.localFlow, s.parser.replies, s.sched.keyFifo, s.kbd.queue, s.kbd.down, s.arb.copyBuffer,
    s.arb.feeds)

/-- What `HeadSafe` speaks of. -/
def State.head (s : State) : EngineState × Option Firing × BitVec 16 :=
  (s.engine.state, s.engine.firing, s.engine.strobes)

/-- What `CountsInRange` speaks of. -/
def State.tallies (s : State) : PerPort EventUnit × Counters := (s.events, s.parser.counters)

/-- What `SlotZeroStands` speaks of, of one slot. -/
def Slot.placement (x : Slot) : Option Kind × SlotState × Option SlotId × Option SlotId :=
  (x.kind, x.state, x.chainHead, x.successor)

theorem SlotZeroStands.of_slots {s t : State} (h : SlotZeroStands s) (e : t.slots = s.slots) : SlotZeroStands t := by
  have same (i : SlotId) : t.slot i = s.slot i := by simp [State.slot, e]
  obtain ⟨kind, state, head, succ, links⟩ := h
  exact ⟨by rwa [same], by rwa [same], by rwa [same], by rwa [same], fun i => by rw [same]; exact links i⟩

/-- Slot 0 stands wherever every slot keeps its placement, but for slots other than 0 that stay unlinked to it. -/
theorem SlotZeroStands.of_placement {s t : State} (h : SlotZeroStands s)
    (zero : (t.slot 0).placement = (s.slot 0).placement) (links : ∀ i : SlotId, (t.slot i).successor ≠ some 0) :
    SlotZeroStands t := by
  simp only [Slot.placement, Prod.mk.injEq] at zero
  obtain ⟨kind, state, head, succ⟩ := zero
  exact ⟨kind.trans h.kind, state.trans h.state, head.trans h.chainHead, succ.trans h.successor, links⟩

theorem SlotZeroStands.ne_zero {s : State} (h : SlotZeroStands s) {i : SlotId} (state : (s.slot i).state ≠ .standing) :
    i ≠ 0 := by
  rintro rfl
  exact state h.state

theorem SlotZeroStands.ne_zero_of_kind {s : State} (h : SlotZeroStands s) {i : SlotId}
    (kind : (s.slot i).kind ≠ some .answerback) : i ≠ 0 := by
  rintro rfl
  exact kind h.kind

/-- Slot 0 stands through a change of one slot that leaves slot 0's placement and links none to it. -/
theorem SlotZeroStands.setSlot {s : State} (h : SlotZeroStands s) {i : SlotId} {x : Slot}
    (zero : i = 0 → x.placement = (s.slot 0).placement) (link : x.successor ≠ some 0) :
    SlotZeroStands (s.setSlot i x) := by
  refine h.of_placement ?_ fun j => ?_ <;> rw [State.setSlot_slot] <;> split
  · exact zero ‹_›
  · rfl
  · exact link
  · exact h.unlinked j

theorem BuffersBounded.of_queues {s t : State} (h : BuffersBounded s) (e : t.queues = s.queues) : BuffersBounded t := by
  simp only [State.queues, Prod.mk.injEq] at e
  obtain ⟨fifo, flow, replies, keys, queue, down, copy, feeds⟩ := e
  have nonMod : t.kbd.nonModifiers = s.kbd.nonModifiers := by simp [Keyboard.nonModifiers, down]
  obtain ⟨h1, h2, h3, h4, h5, h6, h7, h8⟩ := h
  exact ⟨fifo ▸ h1, by rw [fifo, flow]; exact h2, replies ▸ h3, keys ▸ h4, queue ▸ h5, copy ▸ h6, feeds ▸ h7,
    nonMod ▸ h8⟩

theorem HeadSafe.of_head {s t : State} (h : HeadSafe s) (e : t.head = s.head) : HeadSafe t := by
  simp only [State.head, Prod.mk.injEq] at e
  obtain ⟨state, firing, strobes⟩ := e
  obtain ⟨h1, h2, h3, h4, h5, h6⟩ := h
  exact ⟨by rwa [state, firing], by rwa [firing, strobes], by rwa [firing], by rwa [firing, strobes], by rwa [firing],
    by rwa [firing]⟩

/-- With no row being fired and no strobe asserted the head is safe. -/
theorem HeadSafe.quiet {s : State} (firing : s.engine.firing = none) (strobes : s.engine.strobes = 0) : HeadSafe s := by
  constructor <;> simp [firing, strobes]

/-- A row fired is safe: its times and limit are clamped, and no group passes the limit (R153 to R157). -/
theorem HeadSafe.fireRow (s : State) : HeadSafe s.fireRow := by
  have least : 40 ≤ dotLimit s.monitor.v := by rw [dotLimit_eq]; exact le_max_left _ _
  have most : dotLimit s.monitor.v ≤ 160 := by rw [dotLimit_eq]; omega
  have groups := (firingGroups_groups (lineRow (s.engine.line.getD .blank) s.engine.step) least).dots
  have times : 250 ≤ strobeFull s.monitor.v s.monitor.th s.settings.density
      ∧ strobeFull s.monitor.v s.monitor.th s.settings.density ≤ 3000 := by
    rw [strobeFull_eq]; omega
  refine ⟨fun h => absurd rfl h, fun h => absurd h nofun, ?_, ?_, ?_, ?_⟩ <;> rintro f ⟨⟩
  · exact fun g mem => (groups g mem).1
  · show groupDots _ ((firingGroups _ _).headD 0) ≤ _
    cases found : firingGroups (lineRow (s.engine.line.getD .blank) s.engine.step) (dotLimit s.monitor.v) with
    | nil => exact (groupDots_zero _).trans_le (Nat.zero_le _)
    | cons g gs => exact (groups g (by simp [found])).1
  · exact ⟨least, most⟩
  · exact ⟨times.1, times.2, rfl⟩

/-- What is said of a row being fired stands through its phases (R157, R158). -/
theorem HeadSafe.of_firing {s t : State} (h : HeadSafe s) {f g : Firing} (before : s.engine.firing = some f)
    (after : t.engine.firing = some g) (state : t.engine.state = s.engine.state)
    (kept : (g.row, g.td, g.ts, g.nmax, g.groups) = (f.row, f.td, f.ts, f.nmax, f.groups))
    (strobes : groupDots f.row t.engine.strobes ≤ f.nmax) : HeadSafe t := by
  simp only [Prod.mk.injEq] at kept
  obtain ⟨row, td, ts, nmax, groups⟩ := kept
  have fired : t.engine.state = .row := by
    by_contra other
    exact absurd (h.released (state ▸ other)) (by simp [before])
  refine ⟨fun other => absurd fired other, fun none_left => by simp [after] at none_left, ?_, ?_, ?_, ?_⟩ <;>
    intro k hk <;> obtain rfl : g = k := by simpa [after] using hk
  · rw [groups, row, nmax]; exact h.groups f before
  · rw [row, nmax]; exact strobes
  · rw [nmax]; exact h.limit f before
  · rw [td, ts]; exact h.times f before

/-- The strobes of a group asserted stay within the limit. -/
theorem HeadSafe.group_le {s : State} (h : HeadSafe s) {f : Firing} (fired : s.engine.firing = some f) (i : Nat) :
    groupDots f.row (f.groups.getD i 0) ≤ f.nmax := by
  rw [List.getD_eq_getElem?_getD]
  cases found : f.groups[i]? with
  | none => exact (groupDots_zero f.row).trans_le (Nat.zero_le _)
  | some g => exact h.groups f fired g (List.mem_of_getElem? found)

theorem CountsInRange.of_tallies {s t : State} (h : CountsInRange s) (e : t.tallies = s.tallies) : CountsInRange t := by
  simp only [State.tallies, Prod.mk.injEq] at e
  obtain ⟨events, counters⟩ := e
  exact ⟨events ▸ h.a, events ▸ h.b, counters ▸ h.counters⟩

/-- An event raised leaves its occurrences within 1 to 255 (R174). -/
theorem EventUnit.raise_countsInRange {u : EventUnit} (h : u.countsInRange) (d : EventDetail) :
    (u.raise d).countsInRange := by
  intro n o set
  simp only [EventUnit.raise, Fin.getElem_fin, Vector.getElem_set] at set
  split at set
  · obtain rfl := Option.some.inj set
    simp only; omega
  · exact h n o set

theorem EventUnit.takeAlert_countsInRange {u : EventUnit} (h : u.countsInRange) (c : Alert) :
    (u.takeAlert c).countsInRange := by
  simp only [EventUnit.takeAlert]
  split
  · exact raise_countsInRange (u := { u with latched := u.latched ||| bit8 c.index }) h _
  · exact h

/-- A counter raised stays within 16 bits (R82). -/
theorem bump_le (n : Nat) : bump n ≤ 65535 := by
  unfold bump; split <;> omega

/-- The counters are bounded one by one. -/
theorem Counters.bounded_iff (c : Counters) : c.bounded ↔ c.received ≤ 65535 ∧ c.flawed ≤ 65535 ∧ c.filed ≤ 65535
    ∧ c.discarded ≤ 65535 ∧ c.lost ≤ 65535 ∧ c.unrouted ≤ 65535 ∧ c.stray ≤ 65535 ∧ c.fifoDrops ≤ 65535
    ∧ c.openDropped ≤ 65535 := by
  simp [Counters.bounded, Counters.list]

/-- The counts stay in range when one port's unit is replaced by one in range. -/
theorem CountsInRange.set_events {s : State} (h : CountsInRange s) (p : Port) {u : EventUnit}
    (range : (s.events.get p).countsInRange → u.countsInRange) :
    CountsInRange { s with events := s.events.set p u } := by
  obtain ⟨a, b, counters⟩ := h
  cases p
  · exact ⟨range a, b, counters⟩
  · exact ⟨a, range b, counters⟩

/-! ## Filing and releases -/

/-- The slot a record is filed in, replaces or misses is a RECEIVE slot (R75). -/
theorem State.slotsWhere_head {s : State} {f : SlotId → Slot → Bool} {i : SlotId} {l : List SlotId}
    (found : s.slotsWhere f = i :: l) : f i (s.slot i) = true := by
  have : i ∈ s.slotsWhere f := by simp [found]
  simpa [State.slotsWhere] using this

theorem Slot.matches_receive {x : Slot} {route : Byte} (h : x.matches route = true) : x.kind = some .receive := by
  simp [Slot.matches] at h
  exact h.1.1

theorem State.fileSearch_armed {s : State} {route : Byte} {i : SlotId} (found : s.fileSearch route = .armed i) :
    (s.slot i).kind = some .receive ∧ (s.slot i).matches route = true ∧ (s.slot i).state = .armed := by
  unfold State.fileSearch at found
  split at found
  · next first =>
    cases found
    have := State.slotsWhere_head first
    simp only [Bool.and_eq_true, decide_eq_true_eq] at this
    exact ⟨Slot.matches_receive this.1, this⟩
  · split at found
    · cases found
    · split at found <;> cases found

theorem State.fileSearch_replace {s : State} {route : Byte} {i : SlotId} (found : s.fileSearch route = .replace i) :
    (s.slot i).kind = some .receive ∧ (s.slot i).matches route = true ∧ (s.slot i).replaceable = true := by
  unfold State.fileSearch at found
  split at found
  · cases found
  · split at found
    · next first =>
      cases found
      have := State.slotsWhere_head first
      simp only [Bool.and_eq_true] at this
      exact ⟨Slot.matches_receive this.1, this⟩
    · split at found <;> cases found

/-- A release leaves the key queue and adds no key to the down set (R112). -/
theorem Keyboard.release_nonModifiers (k : Keyboard) (p : KeyPos) :
    (k.release p).queue = k.queue ∧ (k.release p).nonModifiers ≤ k.nonModifiers := by
  have fewer : ((k.down.filter (· ≠ p)).filter fun p => !(keyAt p).isModifier).length ≤ k.nonModifiers :=
    (List.Sublist.filter _ List.filter_sublist).length_le
  unfold Keyboard.release
  split
  · dsimp only
    split
    · split
      · exact ⟨rfl, fewer⟩
      · exact ⟨rfl, fewer⟩
    · exact ⟨rfl, fewer⟩
  · exact ⟨rfl, le_rfl⟩

theorem Keyboard.releases_nonModifiers (l : List KeyPos) (k : Keyboard) :
    (l.foldl Keyboard.release k).queue = k.queue ∧ (l.foldl Keyboard.release k).nonModifiers ≤ k.nonModifiers := by
  induction l generalizing k with
  | nil => exact ⟨rfl, le_rfl⟩
  | cons p l ih =>
    obtain ⟨queue, fewer⟩ := ih (k.release p)
    obtain ⟨queue', fewer'⟩ := k.release_nonModifiers p
    exact ⟨queue.trans queue', fewer.trans fewer'⟩

theorem Keyboard.observe_nonModifiers (k : Keyboard) (down : BitVec 80) :
    (k.observe down).queue = k.queue ∧ (k.observe down).nonModifiers = k.nonModifiers := by
  simp [Keyboard.observe, Keyboard.nonModifiers]

/-! ## Walks, attributes, and the state after reset -/

/-- A walk from a slot other than slot 0 never reaches slot 0: no link names it (R2). -/
theorem SlotZeroStands.not_mem_walkFrom {s : State} (h : SlotZeroStands s) (n : Nat) {i : SlotId} (general : i ≠ 0) :
    0 ∉ walkFrom s.slots n i := by
  induction n generalizing i with
  | zero => simp [walkFrom]
  | succ n ih =>
    have links := h.unlinked i
    simp only [State.slot, Fin.getElem_fin] at links
    simp only [walkFrom, List.mem_cons, not_or, Fin.getElem_fin]
    refine ⟨general.symm, ?_⟩
    split
    · simp
    · next j link => exact ih fun hj => links (hj ▸ link)

theorem SlotZeroStands.not_mem_membersAfter {s : State} (h : SlotZeroStands s) (i : SlotId) :
    0 ∉ s.membersAfter i := by
  unfold State.membersAfter
  split
  · split
    · simp
    · next j link =>
      have : j ≠ 0 := fun hj => h.unlinked i (hj ▸ link)
      exact fun mem => h.not_mem_walkFrom 8 this (List.mem_of_mem_filter mem)
  · simp

theorem SlotZeroStands.not_mem_members {s : State} (h : SlotZeroStands s) {i : SlotId} (general : i ≠ 0) :
    0 ∉ s.members i := h.not_mem_walkFrom 8 general

/-- A successor argument that is taken never names slot 0 (R11). -/
theorem State.successorOk_ne_zero {s : State} {b : Byte} {n : Option SlotId} (h : s.successorOk b = some n) :
    n ≠ some 0 := by
  have arg : successorArg b = some n := by
    unfold State.successorOk at h
    split at h
    · next found =>
      split at h
      · cases h
      · rw [found, ← h]
    · exact h
  rintro rfl
  unfold successorArg slotArg at arg
  split at arg
  · cases arg
  split at arg
  · cases arg
  next nonzero =>
  split at arg
  · simp only [Option.map_some, Option.some.injEq, Fin.ext_iff] at arg
    exact nonzero (BitVec.eq_of_toNat_eq arg)
  · cases arg

theorem State.attributeArgs_successor {s : State} {i : SlotId} {pr n f rt k fl : Byte} {t : Attributes}
    (h : s.attributeArgs i pr n f rt k fl = some t) : t.successor ≠ some 0 := by
  unfold State.attributeArgs at h
  split at h
  · next ok _ _ =>
    split at h
    · cases h
      exact State.successorOk_ne_zero ok
    · cases h
  · cases h

/-- A slot after the RESET pin (R3). -/
theorem State.reset_slot (i : SlotId) : State.reset.slot i = if i = 0 then Slot.standing else Slot.unclaimed := by
  by_cases h : i = 0
  · subst h; rfl
  · have : ¬0 = i.val := fun e => h (Fin.ext e.symm)
    simp [State.slot, State.reset, h, this]

theorem SlotZeroStands.reset : SlotZeroStands State.reset where
  kind := rfl
  state := rfl
  chainHead := rfl
  successor := rfl
  unlinked i := by rw [State.reset_slot]; split <;> nofun

theorem BuffersBounded.reset : BuffersBounded State.reset := by
  constructor <;> decide

theorem HeadSafe.reset : HeadSafe State.reset := .quiet rfl rfl

theorem EventUnit.reset_countsInRange {m e : BitVec 8} :
    { EventUnit.reset with masks := m, enables := e }.countsInRange := by
  intro n o set
  simp [EventUnit.reset] at set

theorem CountsInRange.reset : CountsInRange State.reset :=
  ⟨EventUnit.reset_countsInRange, EventUnit.reset_countsInRange, (Counters.bounded_iff _).2 (by decide)⟩

/-! ## What comes through -/

/-- Every invariant comes through from one state to another, and the queue of waiting commands stands. -/
structure State.Keeps (s t : State) : Prop where
  slotZero : SlotZeroStands s → SlotZeroStands t
  buffers : BuffersBounded s → BuffersBounded t
  headSafe : HeadSafe s → HeadSafe t
  counts : CountsInRange s → CountsInRange t
  pending : t.pending = s.pending

/-- Everything that an invariant or `State.Keeps` speaks of. -/
def State.guarded (s : State) := (s.slots, s.queues, s.head, s.tallies, s.pending)

namespace State.Keeps

variable {r s t : State}

theorem refl (s : State) : s.Keeps s := ⟨id, id, id, id, rfl⟩

theorem trans (h : r.Keeps s) (h' : s.Keeps t) : r.Keeps t :=
  ⟨h'.slotZero ∘ h.slotZero, h'.buffers ∘ h.buffers, h'.headSafe ∘ h.headSafe, h'.counts ∘ h.counts,
    h'.pending.trans h.pending⟩

/-- A change of nothing that the invariants speak of. -/
theorem same (h : r.Keeps s) (e : t.guarded = s.guarded) : r.Keeps t := by
  simp only [State.guarded, Prod.mk.injEq] at e
  obtain ⟨slots, queues, head, tallies, pending⟩ := e
  exact h.trans ⟨(·.of_slots slots), (·.of_queues queues), (·.of_head head), (·.of_tallies tallies), pending⟩

/-- A change of the slots alone. -/
theorem of_slots (h : r.Keeps s)
    (e : (t.queues, t.head, t.tallies, t.pending) = (s.queues, s.head, s.tallies, s.pending))
    (z : SlotZeroStands s → SlotZeroStands t) : r.Keeps t := by
  simp only [Prod.mk.injEq] at e
  obtain ⟨queues, head, tallies, pending⟩ := e
  exact h.trans ⟨z, (·.of_queues queues), (·.of_head head), (·.of_tallies tallies), pending⟩

/-- A change of the queues alone. -/
theorem of_queues (h : r.Keeps s)
    (e : (t.slots, t.head, t.tallies, t.pending) = (s.slots, s.head, s.tallies, s.pending))
    (z : BuffersBounded s → BuffersBounded t) : r.Keeps t := by
  simp only [Prod.mk.injEq] at e
  obtain ⟨slots, head, tallies, pending⟩ := e
  exact h.trans ⟨(·.of_slots slots), z, (·.of_head head), (·.of_tallies tallies), pending⟩

/-- A change of the head alone. -/
theorem of_head (h : r.Keeps s)
    (e : (t.slots, t.queues, t.tallies, t.pending) = (s.slots, s.queues, s.tallies, s.pending))
    (z : HeadSafe s → HeadSafe t) : r.Keeps t := by
  simp only [Prod.mk.injEq] at e
  obtain ⟨slots, queues, tallies, pending⟩ := e
  exact h.trans ⟨(·.of_slots slots), (·.of_queues queues), z, (·.of_tallies tallies), pending⟩

/-- A change of the occurrences and counters alone. -/
theorem of_tallies (h : r.Keeps s)
    (e : (t.slots, t.queues, t.head, t.pending) = (s.slots, s.queues, s.head, s.pending))
    (z : CountsInRange s → CountsInRange t) : r.Keeps t := by
  simp only [Prod.mk.injEq] at e
  obtain ⟨slots, queues, head, pending⟩ := e
  exact h.trans ⟨(·.of_slots slots), (·.of_queues queues), (·.of_head head), z, pending⟩

/-- A choice between two changes. -/
theorem ite {c : Prop} [Decidable c] {x y : State} (hx : c → r.Keeps x) (hy : ¬c → r.Keeps y) :
    r.Keeps (if c then x else y) := by
  split
  · exact hx ‹_›
  · exact hy ‹_›

/-- The scheduler changed but for the key-to-line FIFO. -/
theorem sched (h : r.Keeps s) {x : Scheduler} (keys : x.keyFifo = s.sched.keyFifo) :
    r.Keeps { s with sched := x } :=
  h.same (by simp [State.guarded, State.queues, State.head, State.tallies, keys])

/-- The arbiter changed but for the local copy buffer and the feed requests. -/
theorem arb (h : r.Keeps s) {x : Arbiter} (copy : x.copyBuffer = s.arb.copyBuffer) (feeds : x.feeds = s.arb.feeds) :
    r.Keeps { s with arb := x } :=
  h.same (by simp [State.guarded, State.queues, State.head, State.tallies, copy, feeds])

/-! ## Events, alerts, beeps and counters -/

theorem setUnit (h : r.Keeps s) (p : Port) {u : EventUnit} (range : (s.events.get p).countsInRange → u.countsInRange) :
    r.Keeps (s.setUnit p u) :=
  h.of_tallies (by rfl) (·.set_events p range)

theorem raise (h : r.Keeps s) (p : Port) (d : EventDetail) : r.Keeps (s.raise p d) :=
  h.setUnit p (EventUnit.raise_countsInRange · d)

theorem raiseBoth (h : r.Keeps s) (d : EventDetail) : r.Keeps (s.raiseBoth d) := (h.raise .a d).raise .b d

theorem alert (h : r.Keeps s) (p : Port) (c : Alert) : r.Keeps (s.alert p c) :=
  h.setUnit p (EventUnit.takeAlert_countsInRange · c)

theorem alertBoth (h : r.Keeps s) (c : Alert) : r.Keeps (s.alertBoth c) := (h.alert .a c).alert .b c

theorem alertOwner (h : r.Keeps s) (p : Option Port) (c : Alert) : r.Keeps (s.alertOwner p c) := by
  cases p with
  | none => exact h
  | some p => exact h.alert p c

theorem raiseKeys (h : r.Keeps s) (p : Port) (k : KeysReason) : r.Keeps (s.raiseKeys p k) := h.raise p _

theorem beep (h : r.Keeps s) : r.Keeps s.beep := ite (fun _ => h.same rfl) fun _ => h

/-- The counters changed within their bounds. -/
theorem counters (h : r.Keeps s) {c : Counters} (bounds : s.parser.counters.bounded → c.bounded) :
    r.Keeps { s with parser.counters := c } :=
  h.of_tallies (by rfl) (fun k => ⟨k.a, k.b, bounds k.counters⟩)

/-! ## The slot store -/

/-- A slot changed in what neither links nor places it. -/
theorem setSlot_aside (h : r.Keeps s) {i : SlotId} {x : Slot} (e : x.placement = (s.slot i).placement) :
    r.Keeps (s.setSlot i x) :=
  h.of_slots (by rfl) (fun z => z.setSlot (fun hi => hi ▸ e) (by
    simp only [Slot.placement, Prod.mk.injEq] at e
    rw [e.2.2.2]; exact z.unlinked i))

/-- A slot other than slot 0 changed, and not linked to slot 0. -/
theorem setSlot_general (h : r.Keeps s) {i : SlotId} {x : Slot} (general : SlotZeroStands s → i ≠ 0)
    (link : SlotZeroStands s → x.successor ≠ some 0) : r.Keeps (s.setSlot i x) :=
  h.of_slots (by rfl) (fun z => z.setSlot (fun hi => absurd hi (general z)) (link z))

/-- Every slot changed, slot 0 in its place and none linked to it. -/
theorem mapSlots (h : r.Keeps s) {f : SlotId → Slot → Slot}
    (zero : SlotZeroStands s → (f 0 (s.slot 0)).placement = (s.slot 0).placement)
    (links : SlotZeroStands s → ∀ i, (f i (s.slot i)).successor ≠ some 0) : r.Keeps (s.mapSlots f) :=
  h.of_slots (by simp [State.queues, State.head, State.tallies]) fun z =>
    z.of_placement (by rw [State.mapSlots_slot]; exact zero z) fun i => by rw [State.mapSlots_slot]; exact links z i

/-- A chain's members changed: slot 0 is never one (R2). -/
theorem mapChain (h : r.Keeps s) (i : SlotId) {f : Slot → Slot} (links : ∀ x, (f x).successor = x.successor) :
    r.Keeps (s.mapChain i f) :=
  h.mapSlots (fun z => by simp [z.chainHead]) fun z j => by
    split
    · rw [links]; exact z.unlinked j
    · exact z.unlinked j

theorem raiseEnded (h : r.Keeps s) (i : SlotId) (o : EndOutcome) : r.Keeps (s.raiseEnded i o) := by
  unfold State.raiseEnded
  split
  · exact h
  · exact h.raise _ _

theorem chainRequest (h : r.Keeps s) (i : SlotId) (k : Kind) (e : List SlotState) (n : SlotState)
    (o : Option EndOutcome) : r.Keeps (s.chainRequest i k e n o) := by
  have moved := h.mapChain i (f := fun x => { x with state := n, outcome := o, hold := false }) fun _ => rfl
  unfold State.chainRequest
  split
  · cases o with
    | none => exact moved
    | some o => exact moved.raiseEnded i o
  · exact h

/-! ## Drain marks and the two queues -/

theorem testLineMark (h : r.Keeps s) (p : Port) : r.Keeps (s.testLineMark p) := by
  unfold State.testLineMark
  split
  · refine ite (fun _ => ?_) fun _ => h
    exact (h.same (by rfl)).raise p _
  · exact h

theorem testLineMarks (h : r.Keeps s) : r.Keeps s.testLineMarks := (h.testLineMark .a).testLineMark .b

theorem testPrintMark (h : r.Keeps s) (p : Port) : r.Keeps (s.testPrintMark p) := by
  unfold State.testPrintMark
  split
  · refine ite (fun _ => ?_) fun _ => h
    exact (h.same (by rfl)).raise p _
  · exact h

theorem testPrintMarks (h : r.Keeps s) : r.Keeps s.testPrintMarks := (h.testPrintMark .a).testPrintMark .b

theorem changePrintMarks (h : r.Keeps s) (f : MarkRecord → MarkRecord) : r.Keeps (s.changePrintMarks f) :=
  (h.same (by rfl)).testPrintMarks

theorem enterSendQueue (h : r.Keeps s) (i : SlotId) : r.Keeps (s.enterSendQueue i) := h.same rfl

theorem enterPrintQueue (h : r.Keeps s) (k : JobKind) (i : SlotId) : r.Keeps (s.enterPrintQueue k i) := by
  unfold State.enterPrintQueue
  split
  · exact h
  · exact h.same rfl

theorem dropJob (h : r.Keeps s) (k : JobKind) (i : SlotId) : r.Keeps (s.dropJob k i) := (h.same (by rfl)).testPrintMarks

/-! ## The receive direct FIFO (R77, R81) -/

theorem toSink (h : r.Keeps s) (b : Byte) (flawed : Bool) : r.Keeps (s.toSink b flawed) := by
  unfold State.toSink
  refine ite (fun _ => h.counters fun k => ?_) fun _ => ite (fun _ => (h.counters fun k => ?_).alertBoth _)
    fun room => ?_
  · rw [Counters.bounded_iff] at k ⊢; simp [k, bump_le]
  · rw [Counters.bounded_iff] at k ⊢; simp [k, bump_le]
  · have flows : ∀ k : BuffersBounded s, s.parser.fifo.length + 1 ≤ 256 := fun _ => by omega
    refine ite (fun _ => ?_) fun open_ => ?_
    · exact h.of_queues (by rfl) (fun k => { k with fifo := by simpa [State.turnLocalFlow] using flows k, paused :=
        fun _ => rfl })
    · refine h.of_queues (by rfl) (fun k => { k with fifo := by simpa using flows k, paused := fun full => ?_ })
      cases flow : s.parser.localFlow
      · simp [flow] at open_ full; omega
      · rfl

theorem departFifo (h : r.Keeps s) (n : Nat) (byArbiter : Bool) : r.Keeps (s.departFifo n byArbiter) := by
  unfold State.departFifo
  refine ite (fun _ => h) fun _ => changePrintMarks (ite (fun low => ?_) fun high => ?_) _
  · refine h.of_queues (by rfl) (fun k => { k with fifo := ?_, paused := fun full => ?_ })
    · have := k.fifo; simp [State.turnLocalFlow]; omega
    · simp [State.turnLocalFlow] at low full; omega
  · refine h.of_queues (by rfl) (fun k => { k with fifo := ?_, paused := fun full => k.paused ?_ })
    · have := k.fifo; simp; omega
    · simp at full; omega

theorem emptyFifo (h : r.Keeps s) : r.Keeps s.emptyFifo := by
  have emptied : r.Keeps { s with parser.fifo := [], parser.silence := ⟨none, false⟩ } :=
    h.of_queues (by rfl) fun k => { k with fifo := by simp, paused := by simp }
  exact emptied.changePrintMarks _

/-! ## The row engine (R152 to R159) -/

theorem fireRow (h : r.Keeps s) : r.Keeps s.fireRow := h.of_head (by rfl) fun _ => HeadSafe.fireRow s

theorem holdRow (h : r.Keeps s) : r.Keeps s.holdRow := h.of_head (by rfl) fun _ => .quiet rfl rfl

theorem checkRow (h : r.Keeps s) : r.Keeps s.checkRow := by
  unfold State.checkRow
  refine ite (fun _ => h.holdRow) fun _ => ?_
  have stalled (t : State) (k : r.Keeps t) (b : Bool) : r.Keeps (if b then t.alertBoth .printStall else t) :=
    ite (fun _ => k.alertBoth _) fun _ => k
  exact ite (fun _ => (stalled _ (h.same (by rfl)) _).holdRow) fun _ => (stalled _ (h.same (by rfl)) _).fireRow

theorem takeLine (h : r.Keeps s) (l : TextLine) : r.Keeps (s.takeLine l) := (h.same (by rfl)).checkRow

theorem paperStall (h : r.Keeps s) : r.Keeps s.paperStall := ite (fun _ => (h.same (by rfl)).alertBoth _) fun _ => h

theorem beginBlank (h : r.Keeps s) : r.Keeps s.beginBlank := h.of_head (by rfl) fun _ => .quiet rfl rfl

theorem judgeSupply (h : r.Keeps s) : r.Keeps s.judgeSupply :=
  ite (fun _ => (h.same (by rfl)).alertBoth _) fun _ => ite (fun _ => h.same rfl) fun _ => h

theorem measureBattery (h : r.Keeps s) (v : Nat) : r.Keeps (s.measureBattery v) := by
  have judged : r.Keeps { s with
      monitor.v := batteryReading v, monitor.batteryTaken := true, monitor.batteryDue := false }.judgeSupply :=
    (h.same (by rfl)).judgeSupply
  exact ite (fun _ => (judged.same (by rfl)).checkRow) fun _ => judged.same rfl

theorem measureHead (h : r.Keeps s) (th : Int) : r.Keeps (s.measureHead th) :=
  ite (fun _ => (h.same (by rfl)).checkRow) fun _ => h.same rfl

/-! ## The print arbiter (chapter 7) -/

theorem departCopy (h : r.Keeps s) (n : Nat) : r.Keeps (s.departCopy n) := by
  have left : r.Keeps { s with arb.copyBuffer := s.arb.copyBuffer.drop n } :=
    h.of_queues (by rfl) fun k => { k with copyBuffer := by have := k.copyBuffer; simp; omega }
  exact ite (fun _ => h) fun _ => left.changePrintMarks _

theorem handLine (h : r.Keeps s) (l : TextLine) : r.Keeps (s.handLine l) := h.takeLine l

theorem endLiveUnit (h : r.Keeps s) : r.Keeps s.endLiveUnit := (h.same (by rfl)).changePrintMarks _

theorem takeLive (h : r.Keeps s) (src : LiveSource) : r.Keeps (s.takeLive src) := by
  have taken : ∀ t, r.Keeps t → ∀ c : Composed, r.Keeps (match c.handout with
      | none => t.endLiveUnit
      | some x => { t with arb.unit := .live src x.blanks, arb.buffer := c.buffer }.handLine x.line) := by
    intro t k c
    split
    · exact k.endLiveUnit
    · exact (k.same (by rfl)).handLine _
  cases src
  · exact taken _ ((h.same (by rfl)).departFifo _ _) _
  · exact taken _ ((h.same (by rfl)).departCopy _) _

theorem serveFeed (h : r.Keeps s) : r.Keeps s.serveFeed := by
  have left : r.Keeps { s with arb.feeds := s.arb.feeds - 1, arb.unit := .feed } :=
    h.of_queues (by rfl) fun k => { k with feeds := by have := k.feeds; simp; omega }
  exact (left.changePrintMarks _).handLine _

theorem endJob (h : r.Keeps s) : r.Keeps s.endJob := (h.same (by rfl)).testPrintMarks

theorem setAutoJob (h : r.Keeps s) (i : SlotId) (a : AutoJob) : r.Keeps (s.setAutoJob i a) := h.setSlot_aside rfl

theorem completeJob (h : r.Keeps s) (j : Job) : r.Keeps (s.completeJob j) := by
  unfold State.completeJob
  refine endJob ?_
  split
  · exact h.chainRequest _ _ _ _ _
  · exact h.chainRequest _ _ _ _ _
  · exact h.setAutoJob _ _

theorem cutJob (h : r.Keeps s) (j : Job) : r.Keeps (s.cutJob j) := by
  unfold State.cutJob
  refine endJob ?_
  split
  · exact h.chainRequest _ _ _ _ _
  · exact h.chainRequest _ _ _ _ _
  · exact h.setAutoJob _ _

theorem beginJob (h : r.Keeps s) (j : Job) : r.Keeps (s.beginJob j) := by
  unfold State.beginJob
  refine same (s := match j.kind with
    | .print => s.chainRequest j.slot .print [.queued] .active none
    | .copy => s
    | .auto => s.setAutoJob j.slot .printing) ?_ rfl
  split
  · exact h.chainRequest _ _ _ _ _
  · exact h
  · exact h.setAutoJob _ _

theorem startJob (h : r.Keeps s) (j : Job) : r.Keeps (s.startJob j) :=
  ite (fun _ => h.same rfl) fun _ => h.beginJob j

theorem chooseUnit (h : r.Keeps s) (e : s.chooseUnit = some t) : r.Keeps t := by
  unfold State.chooseUnit at e
  split at e
  · cases e; exact h.takeLive _
  · cases e; exact h.startJob _
  · split at e <;> cases e
    · exact h.takeLive _
    · exact h.startJob _
  · cases e

/-- What the arbiter does at a selection point or a text-line boundary (R133, R135, R143). -/
theorem printOnce (h : r.Keeps s) (e : s.printOnce = some t) : r.Keeps t := by
  unfold State.printOnce at e
  split at e
  · cases e
  split at e
  · split at e
    · cases e; exact h.serveFeed
    split at e
    · split at e
      · split at e <;> cases e
        exact h.same rfl
      split at e <;> cases e
      · exact h.beginJob _
      · exact h.same rfl
    · exact h.chooseUnit e
  · cases e; exact h.endLiveUnit
  · split at e <;> cases e
    · exact (h.same (by rfl)).handLine _
    · exact h.endLiveUnit
  · split at e
    · cases e; exact h.cutJob _
    split at e <;> cases e
    · exact h.completeJob _
    · exact (h.same (by rfl)).handLine _

theorem printLoop (h : r.Keeps s) (n : Nat) : r.Keeps (s.printLoop n) := by
  induction n generalizing s with
  | zero => exact h
  | succ n ih =>
    unfold State.printLoop
    split
    · exact h
    · exact ih (h.printOnce ‹_›)

theorem servePrint (h : r.Keeps s) : r.Keeps s.servePrint := h.printLoop 100

theorem lineComplete (h : r.Keeps s) : r.Keeps s.lineComplete := by
  unfold State.lineComplete
  split
  · exact h
  · exact h.endLiveUnit
  · exact ite (fun _ => h) fun _ => h.endLiveUnit
  · next j position blanks completed _ =>
    have counted : r.Keeps { s with arb.unit := .job j position blanks (min 255 (completed + 1)) } := h.same rfl
    refine ite (fun _ => counted.cutJob j) fun _ => ?_
    split
    · exact counted.completeJob j
    · exact counted

/-! ## The supervisor and the transmit scheduler (chapters 3 and 5) -/

theorem lineEvent (h : r.Keeps s) (x : LineReason) : r.Keeps (s.lineEvent x) := by
  have raised : r.Keeps ({ s with sup.reason := x }.raiseBoth (.line s.sup.state x)) := (h.same (by rfl)).raiseBoth _
  exact ite (fun _ => raised.beep) fun _ => raised

theorem enterIdle (h : r.Keeps s) : r.Keeps s.enterIdle := by
  have counted : r.Keeps { s with parser.counters.discarded :=
      if s.parser.state.assembling then bump s.parser.counters.discarded else s.parser.counters.discarded } :=
    h.counters fun k => by rw [Counters.bounded_iff] at k ⊢; have := bump_le s.parser.counters.discarded; grind
  have cleared : r.Keeps { s with
      parser.replies := []
      parser.counters.discarded :=
        if s.parser.state.assembling then bump s.parser.counters.discarded else s.parser.counters.discarded } :=
    counted.of_queues (by rfl) fun k => { k with replies := Nat.zero_le _ }
  exact (cleared.same (by rfl)).testLineMarks

theorem goIdle (h : r.Keeps s) (x : LineReason) : r.Keeps (s.goIdle x) := h.enterIdle.lineEvent x

theorem failActive (h : r.Keeps s) (o : EndOutcome) : r.Keeps (s.failActive o) := by
  unfold State.failActive
  split
  · exact h
  · exact ite (fun _ => h.chainRequest _ _ _ _ _) fun _ => h.chainRequest _ _ _ _ _

theorem endTurn (h : r.Keeps s) : r.Keeps s.endTurn := h.same rfl

theorem leaveLine (h : r.Keeps s) (i : SlotId) : r.Keeps (s.leaveLine i) := (h.same (by rfl)).testLineMarks

theorem completeChain (h : r.Keeps s) (i : SlotId) : r.Keeps (s.completeChain i) := by
  refine leaveLine (ite (fun _ => ite (fun _ => ?_) fun _ => h.endTurn) fun _ => ?_) i
  · exact (h.endTurn.chainRequest _ _ _ _ _).enterPrintQueue _ _
  · exact h.endTurn.chainRequest _ _ _ _ _

theorem withdrawActive (h : r.Keeps s) (i : SlotId) : r.Keeps (s.withdrawActive i) :=
  (h.endTurn.chainRequest _ _ _ _ _).leaveLine i

theorem failReply (h : r.Keeps s) (i : SlotId) (o : EndOutcome) : r.Keeps (s.failReply i o) :=
  (h.endTurn.chainRequest _ _ _ _ _).leaveLine i

theorem acceptRecord (h : r.Keeps s) (ct : ChainTurn) : r.Keeps (s.acceptRecord ct) := by
  unfold State.acceptRecord
  split
  · exact h.same rfl
  · exact h.completeChain _

theorem chooseAnswerback (h : r.Keeps s) (x : Option ChainTurn) : r.Keeps (s.chooseAnswerback x) :=
  ite (fun _ => h.same rfl) fun _ => h.same rfl

theorem beginChain (h : r.Keeps s) (q : QueuedChain) : r.Keeps (s.beginChain q) := by
  have complete (t : State) (k : r.Keeps t) (b : Bool) : r.Keeps (if b then t.completeChain q.head else t) :=
    ite (fun _ => k.completeChain q.head) fun _ => k
  exact complete _ ((h.chainRequest q.head .send [.queued] .active none).same (by rfl)) _

theorem startChain (h : r.Keeps s) (q : QueuedChain) : r.Keeps (s.startChain q) :=
  ite (fun _ => h.same rfl) fun _ => h.beginChain q

theorem chooseTurn (h : r.Keeps s) (e : s.chooseTurn = some t) : r.Keeps t := by
  unfold State.chooseTurn at e
  split at e
  · cases e; exact h.chooseAnswerback _
  split at e
  · cases e
  split at e
  · cases e
  · cases e; exact h.startChain _
  · cases e; exact h.same rfl
  · split at e <;> cases e
    · exact h.same rfl
    · exact h.startChain _

theorem handCharacter (h : r.Keeps s) (b : Byte) (x : Handed) : r.Keeps (s.handCharacter b x) := h.same rfl

theorem countAttempt (h : r.Keeps s) (ct : ChainTurn) : r.Keeps (s.countAttempt ct) := by
  unfold State.countAttempt
  exact (h.setSlot_aside (by rfl)).setSlot_aside (by rfl)


end State.Keeps

/-- Whatever state a step of the boundary answers, it comes to it with every invariant. -/
def LineStep.Keeps (r : State) : LineStep → Prop
  | .wait => True
  | .handed t => r.Keeps t
  | .again t => r.Keeps t

namespace State.Keeps

variable {r s t : State}

theorem chainStep (h : r.Keeps s) (ct : ChainTurn) : (s.chainStep ct).Keeps r := by
  unfold State.chainStep
  split
  · split
    · split
      · exact (h.same (by rfl)).handCharacter _ _
      · exact h.completeChain _
    · trivial
  · split
    · trivial
    split
    · exact h.chooseAnswerback _
    split
    · exact ((h.same (by rfl)).countAttempt ct).handCharacter _ _
    · trivial
  · split
    · dsimp only
      split
      · exact (h.same (by rfl)).handCharacter _ _
      · trivial
    · trivial
  · trivial

theorem withdrawalStep (h : r.Keeps s) (ct : ChainTurn) : (s.withdrawalStep ct).Keeps r := by
  unfold State.withdrawalStep
  split
  · split
    · exact h.handCharacter _ _
    · trivial
  · split
    · exact h.withdrawActive _
    · trivial

theorem turnStep (h : r.Keeps s) (reached : Bool) : (s.turnStep reached).Keeps r := by
  unfold State.turnStep
  split
  · split
    · trivial
    split
    · trivial
    · exact h.chooseTurn ‹_›
  · split
    · trivial
    · exact h.same rfl
  · split
    · exact (h.same (by rfl)).handCharacter _ _
    · trivial
  · split
    · trivial
    split
    · next cs fifo _ =>
      refine same (h.of_queues (t := { s with sched.keyFifo := cs }) rfl fun k => { k with keyFifo := ?_ }) rfl
      have := k.keyFifo
      simp [fifo] at this ⊢
      omega
    · exact h.endTurn
  · split
    · trivial
    split
    · exact h.withdrawalStep _
    · exact h.chainStep _

/-- One step of a character boundary (R86). -/
theorem lineOnce (h : r.Keeps s) (reached : Bool) : (s.lineOnce reached).Keeps r := by
  unfold State.lineOnce
  split
  · trivial
  split
  · exact h.goIdle _
  split
  · exact h.same rfl
  split
  · split
    · exact (h.same (by rfl)).handCharacter _ _
    · next rs _ replies =>
      refine same (h.of_queues (t := { s with parser.replies := rs }) rfl fun k => { k with replies := ?_ }) rfl
      have := k.replies
      simp [replies] at this ⊢
      omega
    · exact h.turnStep _
  · exact h.turnStep _

theorem lineLoop (h : r.Keeps s) (reached : Bool) (n : Nat) : r.Keeps (s.lineLoop reached n) := by
  induction n generalizing s reached with
  | zero => exact h
  | succ n ih =>
    have step := h.lineOnce reached
    unfold State.lineLoop
    split <;> simp only [LineStep.Keeps, *] at step
    · exact h
    · exact ite (fun _ => ih step true) fun _ => step
    · exact ih step true

theorem serveLine (h : r.Keeps s) : r.Keeps s.serveLine := h.lineLoop false 100

theorem serveTurn (h : r.Keeps s) : r.Keeps s.serveTurn := h.lineLoop true 100

theorem settle (h : r.Keeps s) : r.Keeps s.settle := h.serveLine.servePrint.serveLine

theorem settleTurn (h : r.Keeps s) : r.Keeps s.settleTurn := h.serveTurn.servePrint.serveLine

theorem settleAfter (h : r.Keeps s) (before : State) : r.Keeps (before.settleAfter s) :=
  ite (fun _ => h.settleTurn) fun _ => h.settle

theorem resumeTurn (h : r.Keeps s) (x : Option ChainTurn) : r.Keeps (s.resumeTurn x) := h.same rfl

theorem characterDone (h : r.Keeps s) : r.Keeps s.characterDone := by
  unfold State.characterDone
  split
  · exact (h.same (by rfl)).testLineMarks
  · exact (h.same (by rfl)).resumeTurn _
  · split
    · exact ite (fun _ => (h.same (by rfl)).completeChain _) fun _ => h.same rfl
    · exact h.same rfl
  · exact ite (fun _ => h.same rfl) fun _ => ite (fun _ => (h.same (by rfl)).acceptRecord _) fun _ => h.same rfl
  · exact (h.same (by rfl)).withdrawActive _
  · exact h.same rfl

theorem retryRecord (h : r.Keeps s) (ct : ChainTurn) (o : EndOutcome) : r.Keeps (s.retryRecord ct o) :=
  ite (fun _ => h.same rfl) fun _ => h.failReply _ _

theorem takeReply (h : r.Keeps s) (x : Reply) : r.Keeps (s.takeReply x) := by
  unfold State.takeReply
  split
  · refine h.counters fun k => ?_
    rw [Counters.bounded_iff] at k ⊢
    simp [k, bump_le]
  · split
    · exact h.acceptRecord _
    · exact h.retryRecord _ _

theorem endChainWait (h : r.Keeps s) : r.Keeps s.endChainWait := by
  unfold State.endChainWait
  split
  · exact h.same rfl
  · exact h

theorem takeEnq (h : r.Keeps s) : r.Keeps s.takeEnq := ite (fun _ => h) fun _ => (h.same (by rfl)).endChainWait

theorem takeFlow (h : r.Keeps s) (f : Flow) : r.Keeps (s.takeFlow f) := ite (fun _ => h) fun _ => h.same rfl

theorem requestBreak (h : r.Keeps s) : r.Keeps s.requestBreak := ite (fun _ => h.same rfl) fun _ => h

/-! ## The receive parser (chapter 4) -/

theorem queueReply (h : r.Keeps s) (x : Reply) : r.Keeps (s.queueReply x) :=
  ite (fun room => h.of_queues (by rfl) fun k => { k with replies := by simp; omega }) fun _ => h

theorem abandon (h : r.Keeps s) (next : ParserState) : r.Keeps (s.abandon next) :=
  h.of_tallies (by rfl) fun k => ⟨k.a, k.b, by
    have := k.counters
    simp only [State.abandon, Counters.bounded_iff] at this ⊢
    simp [this, bump_le]⟩

/-- A record is filed into a RECEIVE slot, which slot 0 is not (R75). -/
theorem fileInto (h : r.Keeps s) {i : SlotId} (receive : (s.slot i).kind = some .receive) (x : Offered) (ow : Bool) :
    r.Keeps (s.fileInto i x ow) := by
  have general (z : SlotZeroStands s) : i ≠ 0 := z.ne_zero_of_kind (by simp [receive])
  have raised (t : State) (k : r.Keeps t) : r.Keeps (match (s.slot i).owner with
      | none => t
      | some p => t.raise p (if ow then .lost .overwritten i x.route else .received i x.route)) := by
    split
    · exact k
    · exact k.raise _ _
  refine raised _ (counters (ite (fun _ => enterPrintQueue ?_ _ _) fun _ => ?_) fun k => ?_)
  · exact h.setSlot_general general fun z => z.unlinked i
  · exact h.setSlot_general general fun z => z.unlinked i
  · rw [Counters.bounded_iff] at k ⊢
    simp [k, bump_le]

theorem file (h : r.Keeps s) (x : Offered) : r.Keeps (s.file x).1 := by
  have counted (f : Counters → Counters) (bounds : s.parser.counters.bounded → (f s.parser.counters).bounded) :
      r.Keeps (s.count f) := h.counters bounds
  unfold State.file
  split
  · next i found => exact h.fileInto (State.fileSearch_armed found).1 x false
  · next i found => exact h.fileInto (State.fileSearch_replace found).1 x true
  · have lost := counted (fun c => { c with lost := bump c.lost }) fun k => by
      rw [Counters.bounded_iff] at k ⊢; simp [k, bump_le]
    dsimp only
    split
    · exact lost
    · exact lost.raise _ _
  · exact counted (fun c => { c with unrouted := bump c.unrouted }) fun k => by
      rw [Counters.bounded_iff] at k ⊢; simp [k, bump_le]

theorem verdict (h : r.Keeps s) (route : Byte) (cls : RecordClass) (text : List RxByte) (running byte : Byte)
    (flawed : Bool) : r.Keeps (s.verdict route cls text running byte flawed) := by
  have text_state : r.Keeps { s with parser.state := .text } := h.same rfl
  unfold State.verdict
  cases cls
  · refine ite (fun _ => (text_state.file _).queueReply _) fun _ => queueReply (text_state.counters fun k => ?_) _
    rw [Counters.bounded_iff] at k ⊢
    simp [k, bump_le]
  · exact text_state.file _

theorem takeData (h : r.Keeps s) (b : Byte) (flawed : Bool) : r.Keeps (s.takeData b flawed) := by
  unfold State.takeData
  split
  · exact ite (fun _ => h.toSink _ _) fun _ => ite (fun _ => h.same rfl) fun _ => ite (fun _ => h.beep) fun _ =>
      ite (fun _ => h.toSink _ _) fun _ => h
  · exact ite (fun _ => h.same rfl) fun _ => h.abandon _
  · split
    · exact ite (fun _ => h.abandon _) fun _ => h.same rfl
    · exact h.abandon _
  · exact ite (fun _ => ite (fun _ => h.same rfl) fun _ => h.abandon _) fun _ => ite (fun _ => h.same rfl) fun _ =>
      ite (fun _ => h.abandon _) fun _ => ite (fun _ => h.abandon _) fun _ => h.abandon _
  · exact h.verdict _ _ _ _ _ _
  · exact ite (fun _ => h.same rfl) fun _ => ite (fun _ => h.same rfl) fun _ => h
  · exact h.same rfl

theorem takeCharacter (h : r.Keeps s) (b : Byte) (flawed : Bool) : r.Keeps (s.takeCharacter b flawed) := by
  have counted : r.Keeps (s.count fun c =>
      { c with received := bump c.received, flawed := if flawed then bump c.flawed else c.flawed }) :=
    h.counters fun k => by
      rw [Counters.bounded_iff] at k ⊢
      cases flawed <;> simp [k, bump_le]
  unfold State.takeCharacter
  dsimp only
  split
  · next c _ =>
    cases c with
    | flow f => exact counted.takeFlow f
    | reply x => exact counted.takeReply x
    | enq => exact counted.takeEnq
  · exact counted.takeData b flawed

theorem breakRecord (h : r.Keeps s) : r.Keeps s.breakRecord := ite (fun _ => h.abandon _) fun _ => h.same rfl

theorem takeGap (h : r.Keeps s) : r.Keeps s.takeGap := (h.toSink _ _).breakRecord

theorem takeBreak (h : r.Keeps s) : r.Keeps s.takeBreak := h.breakRecord.alertBoth _

/-! ## The keyboard scanner (chapter 6) -/

/-- The keyboard changed with no more keys down or queued than it had. -/
theorem keyboard (h : r.Keeps s) {k : Keyboard} (queue : k.queue = s.kbd.queue)
    (down : BuffersBounded s → k.nonModifiers ≤ 4) : r.Keeps { s with kbd := k } :=
  h.of_queues (by rfl) fun b => { b with keyQueue := queue ▸ b.keyQueue, rollover := down b }

theorem loseKey (h : r.Keeps s) : r.Keeps s.loseKey := h.beep.alertBoth _

theorem keyToLine (h : r.Keeps s) (code : Byte) (copy : Bool) : r.Keeps (s.keyToLine code copy) := by
  refine ite (fun room => ?_) fun _ => h.loseKey
  have entered : r.Keeps (s.enterKeyFifo code) :=
    h.of_queues (by rfl) fun k => { k with keyFifo := by simp [State.enterKeyFifo]; omega }
  refine ite (fun _ => entered) fun _ => ite (fun space => ?_) fun _ => entered.alertBoth _
  exact entered.of_queues (by rfl) fun k => { k with copyBuffer := by simp [State.enterCopy]; omega }

theorem keyToQueue (h : r.Keeps s) (p : Port) (code : Byte) (cls : KeyClass) (m : Modifiers) (repeated : Bool) :
    r.Keeps (s.keyToQueue p code cls m repeated) := by
  refine ite (fun room => ?_) fun _ => h.loseKey
  have entered : r.Keeps { s with kbd.queue := s.kbd.queue ++ [KeyEntry.mk code cls m repeated p] } :=
    h.of_queues (by rfl) fun k => { k with keyQueue := by simp; omega }
  exact entered.raiseKeys p _

theorem routeKey (h : r.Keeps s) (code : Byte) (cls : KeyClass) (m : Modifiers) (repeated : Bool) :
    r.Keeps (s.routeKey code cls m repeated) := by
  unfold State.routeKey
  split
  · exact h.beep
  · refine ite (fun _ => h.keyToQueue _ _ _ _ _) fun _ => ?_
    split
    · exact h.keyToQueue _ _ _ _ _
    · exact h.keyToLine _ _
    · exact h.keyToLine _ _

theorem feedKey (h : r.Keeps s) : r.Keeps s.feedKey :=
  ite (fun room => h.of_queues (by rfl) fun k => { k with feeds := room }) fun _ => h.beep

theorem breakKey (h : r.Keeps s) : r.Keeps s.breakKey := ite (fun _ => h.requestBreak) fun _ => h.beep

theorem selectFocus (h : r.Keeps s) (p : Port) : r.Keeps (s.selectFocus p) := by
  have moved : r.Keeps { s with kbd.focus := some p, kbd.wanted := none } := h.same rfl
  unfold State.selectFocus
  dsimp only
  split
  · exact (moved.raiseKeys _ _).raiseKeys _ _
  · exact moved.raiseKeys _ _

theorem selectKey (h : r.Keeps s) : r.Keeps s.selectKey := by
  have alone : r.Keeps { s with kbd.wanted := none }.beep := (h.same (by rfl)).beep
  unfold State.selectKey
  split
  · exact ite (fun _ => h.selectFocus _) fun _ => alone
  · exact ite (fun _ => h.selectFocus _) fun _ => ite (fun _ => h.selectFocus _) fun _ => alone

/-- A press that passes the rollover test (R113). -/
theorem pressKey (h : r.Keeps s) {p : KeyPos} (passes : s.kbd.rolloverPasses p = true) : r.Keeps (s.pressKey p) := by
  have pressed : r.Keeps { s with kbd.down := s.kbd.down ++ [p] } := h.keyboard rfl fun k => by
    have := k.rollover
    simp only [Keyboard.rolloverPasses, Bool.or_eq_true, decide_eq_true_eq] at passes
    simp only [Keyboard.nonModifiers, List.filter_append, List.length_append] at this passes ⊢
    cases modifier : (keyAt p).isModifier <;> simp [modifier] at passes ⊢ <;> omega
  unfold State.pressKey
  dsimp only
  split
  · exact pressed
  · exact pressed
  · exact pressed.same rfl
  · exact pressed.same rfl
  · exact (pressed.same (by rfl)).feedKey
  · exact (pressed.same (by rfl)).breakKey
  · exact (pressed.same (by rfl)).selectKey
  · exact (pressed.same (by rfl)).routeKey _ _ _ _
  · exact (pressed.same (by rfl)).routeKey _ _ _ _
  · exact (pressed.same (by rfl)).routeKey _ _ _ _

theorem tryPress (h : r.Keeps s) (p : KeyPos) : r.Keeps (s.tryPress p) :=
  ite (fun passes => (h.pressKey (Bool.and_eq_true_iff.1 passes).1).settleAfter _) fun _ => h

/-- One scan (R110 to R114): releases let keys go, presses are tested one by one. -/
theorem scanKeys (h : r.Keeps s) (down : BitVec 80) : r.Keeps (s.scanKeys down) := by
  have tested (l : List KeyPos) (t : State) (k : r.Keeps t) : r.Keeps (l.foldl State.tryPress t) := by
    induction l generalizing t with
    | nil => exact k
    | cons p l ih => exact ih _ (k.tryPress p)
  obtain ⟨queue', same⟩ := s.kbd.observe_nonModifiers down
  obtain ⟨queue, fewer⟩ := Keyboard.releases_nonModifiers
    (releasedBetween s.kbd.debounce (s.kbd.observe down).debounce) (s.kbd.observe down)
  have released : r.Keeps { s with
      kbd := (releasedBetween s.kbd.debounce (s.kbd.observe down).debounce).foldl Keyboard.release
        (s.kbd.observe down) } :=
    h.keyboard (queue.trans queue') fun k => (fewer.trans_eq same).trans k.rollover
  unfold State.scanKeys
  exact tested _ _ released

theorem produceRepeat (h : r.Keeps s) (x : RepeatKey) : r.Keeps (s.produceRepeat x) :=
  (h.same (by rfl)).routeKey _ _ _ _

/-! ## The events of the line, the print side and the monitor -/

theorem recordHalfPeriod (h : r.Keeps s) (n : Nat) : r.Keeps (s.recordHalfPeriod n) := h.same rfl

theorem goOnline (h : r.Keeps s) : r.Keeps s.goOnline := (h.same (by rfl)).lineEvent _

theorem carrierQualified (h : r.Keeps s) : r.Keeps s.carrierQualified :=
  ite (fun _ => (h.same (by rfl)).goOnline.settle) fun _ => h.same rfl

theorem carrierFading (h : r.Keeps s) : r.Keeps s.carrierFading := (h.same (by rfl)).takeGap.settle

theorem carrierLost (h : r.Keeps s) : r.Keeps s.carrierLost :=
  ite (fun _ => ((h.same (by rfl)).failActive _).goIdle _) fun _ => h.same rfl

theorem characterIn (h : r.Keeps s) (b : Byte) (flawed : Bool) : r.Keeps (s.characterIn b flawed) :=
  (h.takeCharacter b flawed).settleAfter s

theorem breakIn (h : r.Keeps s) (run : Nat) : r.Keeps (s.breakIn run) := (h.same (by rfl)).takeBreak

theorem takeSampled (h : r.Keeps s) (x : Sampler) (y : Sampled) : r.Keeps (s.takeSampled x y) := by
  cases y with
  | nothing => exact h.same rfl
  | character b flawed => exact (h.same (by rfl)).characterIn b flawed
  | breakSeen => exact h.breakIn _

theorem giveUpChain (h : r.Keeps s) (i : SlotId) : r.Keeps (s.giveUpChain i) := by
  have told : r.Keeps ({ s with sched.holdWait := none }.alertOwner (s.slot i).owner .holdExpired) :=
    (h.same (by rfl)).alertOwner _ _
  unfold State.giveUpChain
  dsimp only
  split
  · exact told
  · exact told.same rfl

theorem giveUpAnswerback (h : r.Keeps s) : r.Keeps s.giveUpAnswerback := (h.same (by rfl)).alertOwner _ _

theorem flowExpired (h : r.Keeps s) : r.Keeps s.flowExpired := (h.same (by rfl)).alertBoth _

theorem silenceOver (h : r.Keeps s) (src : LiveSource) : r.Keeps (s.silenceOver src) := by
  cases src <;> exact h.same rfl

theorem giveUpPrint (h : r.Keeps s) (i : SlotId) : r.Keeps (s.giveUpPrint i) := by
  have told : r.Keeps ({ s with arb.holdWait := none }.alertOwner (s.slot i).owner .holdExpired) :=
    (h.same (by rfl)).alertOwner _ _
  unfold State.giveUpPrint
  dsimp only
  split
  · exact told
  · exact told.same rfl

theorem beginGroup (h : r.Keeps s) {f : Firing} (fired : s.engine.firing = some f) : r.Keeps (s.beginGroup f) :=
  h.of_head (by rfl) fun k => k.of_firing fired rfl rfl rfl (k.group_le fired f.index)

theorem beginPhase2 (h : r.Keeps s) {f : Firing} (fired : s.engine.firing = some f) : r.Keeps (s.beginPhase2 f) :=
  h.of_head (by rfl) fun k => k.of_firing fired rfl rfl rfl (k.strobes f fired)

theorem releaseStrobes (h : r.Keeps s) {f : Firing} (fired : s.engine.firing = some f) :
    r.Keeps (s.releaseStrobes f) := by
  have off : groupDots f.row 0 ≤ f.nmax := (groupDots_zero _).trans_le (Nat.zero_le _)
  exact ite (fun _ => h.of_head (by rfl) fun k => k.of_firing fired rfl rfl rfl off) fun _ =>
    h.of_head (by rfl) fun k => k.of_firing fired rfl rfl rfl off

theorem takeDueBattery (h : r.Keeps s) (v : Nat) : r.Keeps (s.takeDueBattery v) :=
  ite (fun _ => h.measureBattery v) fun _ => h

theorem dueBattery (h : r.Keeps s) (v : Nat) : r.Keeps (s.dueBattery v) :=
  ite (fun _ => h.measureBattery v) fun _ => h.same rfl

theorem endStopped (h : r.Keeps s) : r.Keeps s.endStopped := by
  have idle : r.Keeps { s with engine := { s.engine.motorStep.enterIdle with stopRequested := false } } :=
    h.of_head (by rfl) fun _ => .quiet rfl rfl
  exact idle.paperStall.settle

theorem endLine (h : r.Keeps s) : r.Keeps s.endLine := by
  have idle : r.Keeps { s with engine := s.engine.motorStep.enterIdle } :=
    h.of_head (by rfl) fun _ => .quiet rfl rfl
  exact idle.paperStall.lineComplete.settle

theorem nextStep (h : r.Keeps s) : r.Keeps s.nextStep := by
  have released (e : Engine) : r.Keeps { s with engine := { e with firing := none, strobes := 0 } } :=
    h.of_head (by rfl) fun _ => .quiet rfl rfl
  unfold State.nextStep
  exact ite (fun _ => checkRow ((released s.engine).same rfl)) fun _ => beginBlank ((released s.engine).same rfl)

theorem endStep (h : r.Keeps s) : r.Keeps s.endStep :=
  ite (fun _ => h.endStopped) fun _ => ite (fun _ => h.nextStep) fun _ => (h.same (by rfl)).endLine

theorem paperOut (h : r.Keeps s) : r.Keeps s.paperOut :=
  ite (fun _ => h.same rfl) fun _ => ite (fun _ => (h.same (by rfl)).alertBoth _) fun _ => h.same rfl

theorem paperPresent (h : r.Keeps s) : r.Keeps s.paperPresent := ite (fun _ => h.same rfl) fun _ => h.same rfl

theorem paperBack (h : r.Keeps s) : r.Keeps s.paperBack := (h.same (by rfl)).settle

theorem tick (h : r.Keeps s) : r.Keeps s.tick :=
  ite (fun _ => h.same rfl) fun _ => ite (fun _ => (h.same (by rfl)).recordHalfPeriod _) fun _ => h.same rfl

/-! ## The RESET pin -/

/-- While RESETN is held a step under way goes on with the row it has; the rest is as after reset (R164, R188). -/
theorem resetnAsserted (h : r.Keeps s) : r.Keeps s.resetnAsserted := by
  refine h.trans ⟨fun _ => SlotZeroStands.reset.of_slots rfl, fun _ => BuffersBounded.reset.of_queues rfl, fun k => ?_,
    fun _ => CountsInRange.reset.of_tallies rfl, rfl⟩
  cases state : s.engine.state
  case row | blank => exact k.of_head (by simp [State.head, State.resetnAsserted, Engine.resetnAsserted, state])
  case held | idle =>
    exact .quiet (by simp [State.resetnAsserted, Engine.resetnAsserted, state, Engine.reset])
      (by simp [State.resetnAsserted, Engine.resetnAsserted, state, Engine.reset])

/-! ## The slot commands (chapter 1) -/

theorem claimCommand (h : r.Keeps s) (p : Port) (kind : Byte) : r.Keeps (claimCommand p kind s).1 := by
  have general (k : Kind) : r.Keeps (claimGeneral p k s).1 := by
    unfold claimGeneral
    split
    · exact h
    split
    · exact h
    · next found =>
      have := State.slotsWhere_head found
      simp only [ne_eq, Bool.and_eq_true, decide_eq_true_eq] at this
      exact h.setSlot_general (fun _ => this.1) fun _ => by simp [Slot.claimed, Slot.unclaimed]
  unfold Machine.claimCommand
  split
  · exact h
  · unfold claimAnswerback
    split
    · split <;> exact h
    · split
      · exact h
      · exact h.setSlot_aside rfl
  · exact general _

/-- A slot command goes on with a slot that is not FREE, or changes nothing (R5). -/
theorem onSlot (h : r.Keeps s) {p : Port} {b : Byte} {any : Bool} {f : SlotId → State × Response}
    (on : ∀ i, r.Keeps (f i).1) : r.Keeps (onSlot s p b any f).1 := by
  unfold Machine.onSlot
  split
  · exact h
  · exact on _

theorem freeSlot (h : r.Keeps s) {i : SlotId} (general : i ≠ 0) : r.Keeps (s.freeSlot i) := by
  unfold State.freeSlot
  refine h.mapSlots (fun z => ?_) fun z j => ?_
  · simp [general.symm, Slot.placement, z.successor, z.not_mem_membersAfter i]
  · split
    · nofun
    · dsimp only
      split
      · nofun
      · exact z.unlinked j

theorem releaseCommand (h : r.Keeps s) (p : Port) (b : Byte) : r.Keeps (releaseCommand p b s).1 := by
  refine h.onSlot fun i => ?_
  split
  · exact h.setSlot_aside (by subst i; rfl)
  next general =>
  split
  case h_7 => exact h
  all_goals
    split
    · exact h
    · exact (h.freeSlot general).dropJob _ _
    · exact h.freeSlot general

theorem setAttributesCommand (h : r.Keeps s) (p : Port) (b pr n f rt k fl : Byte) :
    r.Keeps (setAttributesCommand p b pr n f rt k fl s).1 := by
  refine h.onSlot fun i => ?_
  split
  · exact h
  next t args =>
  split
  · next held =>
    refine h.setSlot_general (fun z => z.ne_zero (by simp [held])) fun z => ?_
    unfold Slot.withAttributes
    split
    · exact State.attributeArgs_successor args
    · exact State.attributeArgs_successor args
    · exact z.unlinked i
    · exact z.unlinked i
  · exact h

theorem writeTextCommand (h : r.Keeps s) (p : Port) (b o n e : Byte) (bytes : List Byte) :
    r.Keeps (writeTextCommand p b o n e bytes s).1 := by
  refine h.onSlot fun i => ?_
  split
  · exact h
  split
  · exact h
  · exact h.setSlot_aside rfl

/-- A chain entered in QUEUED: the walk from a slot other than slot 0 never reaches slot 0 (R2, R16). -/
theorem enterQueued (h : r.Keeps s) {i : SlotId} (general : SlotZeroStands s → i ≠ 0) : r.Keeps (s.enterQueued i) := by
  have queued : r.Keeps (s.mapSlots fun j x => if (s.members i).contains j then
      { x with state := .queued, chainHead := some i, attempts := 0, hold := false, outcome := none } else x) := by
    refine h.mapSlots (fun z => ?_) fun z j => ?_
    · simp [z.not_mem_members (general z)]
    · have := z.unlinked j
      split <;> simpa using this
  exact ite (fun _ => queued.enterSendQueue i) fun _ => queued.enterPrintQueue _ _

theorem postCommand (h : r.Keeps s) (p : Port) (b : Byte) : r.Keeps (postCommand p b s).1 := by
  refine h.onSlot fun i => ?_
  dsimp only
  split
  · exact h
  next chains =>
  split
  · exact (h.enterQueued fun z => z.ne_zero_of_kind
      fun kind => by simp [Slot.isChainKind, kind] at chains).settleAfter _
  · exact h

theorem repostCommand (h : r.Keeps s) (p : Port) (b : Byte) : r.Keeps (repostCommand p b s).1 := by
  refine h.onSlot fun i => ?_
  dsimp only
  split
  · exact h
  next chains =>
  split
  · exact (h.enterQueued fun z => z.ne_zero_of_kind
      fun kind => by simp [Slot.isChainKind, kind] at chains).settleAfter _
  · exact h

theorem editCommand (h : r.Keeps s) (p : Port) (b : Byte) : r.Keeps (editCommand p b s).1 := by
  refine h.onSlot fun i => ?_
  dsimp only
  split
  · exact h.mapChain i (f := fun y => { y with state := .held, outcome := none, chainHead := none }) fun _ => rfl
  split
  · next armed =>
    simp only [Bool.and_eq_true, decide_eq_true_eq] at armed
    exact setSlot_general h (fun z => z.ne_zero_of_kind (by simp [armed.1])) fun z => z.unlinked i
  · exact h

theorem holdCommand (h : r.Keeps s) (p : Port) (b : Byte) : r.Keeps (holdCommand p b s).1 := by
  refine h.onSlot fun i => ?_
  split
  · exact h
  · exact h.setSlot_aside rfl

theorem unholdAnswerback (h : r.Keeps s) : r.Keeps s.unholdAnswerback := by
  unfold State.unholdAnswerback
  split
  · exact (h.same (by rfl)).settleTurn
  · exact h

theorem unholdSend (h : r.Keeps s) (i : SlotId) : r.Keeps (s.unholdSend i) := by
  unfold State.unholdSend
  split
  · refine ite (fun _ => ?_) fun _ => h
    split
    · exact (h.beginChain _).settleAfter _
    · exact h
  · exact h

theorem unholdPrint (h : r.Keeps s) (i : SlotId) : r.Keeps (s.unholdPrint i) := by
  unfold State.unholdPrint
  split
  · exact ite (fun _ => (h.same (by rfl)).settle) fun _ => h
  · exact h

theorem tellPath (h : r.Keeps s) (x : Slot) : r.Keeps (s.tellPath x) := by
  unfold State.tellPath
  split
  · exact h
  · exact ite (fun _ => h) fun _ => ite (fun _ => h.unholdSend _) fun _ => h.unholdPrint _

theorem unholdCommand (h : r.Keeps s) (p : Port) (b : Byte) : r.Keeps (unholdCommand p b s).1 := by
  refine h.onSlot fun i => ?_
  split
  · exact h
  · have cleared : r.Keeps (s.setSlot i { s.slot i with hold := false }) := h.setSlot_aside rfl
    exact ite (fun _ => cleared.unholdAnswerback) fun _ => cleared.tellPath _

theorem withdrawCommand (h : r.Keeps s) (p : Port) (b : Byte) : r.Keeps (withdrawCommand p b s).1 := by
  refine h.onSlot fun i => ?_
  dsimp only
  split
  · exact h
  split
  · exact h
  split
  · exact h
  split
  · exact (((h.chainRequest _ _ _ _ _).sched (by rfl)).leaveLine i).settleAfter _
  · refine settleAfter ?_ _
    unfold State.withdrawActiveSend
    split
    · exact ite (fun _ => h.withdrawActive i) fun _ => h
    · exact h.same rfl
  · exact ite (fun _ => (h.chainRequest _ _ _ _ _).dropJob _ _) fun _ => h.same rfl
  · exact (((h.chainRequest _ _ _ _ _).dropJob _ _).arb (by rfl) (by rfl)).settle
  · exact h.same rfl
  · exact h

theorem armCommand (h : r.Keeps s) (p : Port) (b : Byte) : r.Keeps (armCommand p b s).1 := by
  refine h.onSlot fun i => ?_
  dsimp only
  split
  · exact h
  next receive =>
  have general (z : SlotZeroStands s) : i ≠ 0 := z.ne_zero_of_kind (by simp [not_not.1 receive])
  have opened : r.Keeps (s.setSlot i (s.slot i).opened) := h.setSlot_general general fun z => z.unlinked i
  split
  · exact h.setSlot_general general fun z => z.unlinked i
  · split
    · exact h
    · exact opened.dropJob _ _
    · exact opened
  · exact h

/-! ## The other commands of the ports -/

theorem beginAttempt (h : r.Keeps s) (m : Mode) : r.Keeps (s.beginAttempt m) := (h.same (by rfl)).lineEvent _

theorem connectCommand (h : r.Keeps s) (b : Byte) : r.Keeps (connectCommand b s).1 := by
  unfold Machine.connectCommand
  split
  · exact h
  split
  · exact h.beginAttempt _
  · exact h

theorem dropLine (h : r.Keeps s) : r.Keeps s.dropLine := (h.failActive _).goIdle _

theorem beginClearing (h : r.Keeps s) : r.Keeps s.beginClearing :=
  ite (fun _ => (h.same (by rfl)).goIdle _) fun _ => (h.same (by rfl)).lineEvent _

theorem hangUpCommand (h : r.Keeps s) (b : Byte) : r.Keeps (hangUpCommand b s).1 := by
  unfold Machine.hangUpCommand
  split
  · exact h
  split
  · exact h
  · exact h.dropLine
  · exact h.dropLine
  · exact ite (fun _ => h.beginClearing) fun _ => h.dropLine
  · exact ite (fun _ => h) fun _ => h.dropLine

theorem resetLine (h : r.Keeps s) : r.Keeps s.resetLine := by
  have idle : r.Keeps (s.failActive .lineReset).enterIdle := (h.failActive _).enterIdle
  have emptied : r.Keeps { (s.failActive .lineReset).enterIdle with
      parser.localFlow := .xon, sched.keyFifo := [], parser.fifo := [] } :=
    idle.of_queues (by rfl) fun k => { k with fifo := by simp, paused := by simp, keyFifo := by simp }
  unfold State.resetLine
  have emptied' : r.Keeps { { (s.failActive .lineReset).enterIdle with
      modem := Modem.reset, parser.localFlow := .xon, sched.keyFifo := [] } with
      parser.fifo := [], parser.silence := ⟨none, false⟩ } := emptied.same rfl
  exact (emptied'.changePrintMarks _).testLineMarks.lineEvent _

theorem breakCommand (h : r.Keeps s) : r.Keeps (breakCommand s).1 := by
  unfold Machine.breakCommand
  split
  · exact h.requestBreak.settle
  · exact h

theorem readOpenTextCommand (h : r.Keeps s) (p : Port) (n : Byte) : r.Keeps (readOpenTextCommand p n s).1 := by
  unfold Machine.readOpenTextCommand
  split
  · exact h
  split
  · exact h
  split
  · exact h
  · exact (h.departFifo _ _).settle

theorem takeFocusCommand (h : r.Keeps s) (p : Port) : r.Keeps (takeFocusCommand p s).1 := by
  unfold Machine.takeFocusCommand
  split
  · exact h.same rfl
  split
  · exact h
  · exact (h.same (by rfl)).raiseKeys _ _

theorem giveFocusCommand (h : r.Keeps s) (p : Port) : r.Keeps (giveFocusCommand p s).1 := by
  unfold Machine.giveFocusCommand State.passFocus
  split
  · dsimp only [answer]
    split
    · exact (h.same (by rfl)).raiseKeys _ _
    · exact h.same rfl
  · exact h

theorem readKeysCommand (h : r.Keeps s) (p : Port) (n : Byte) : r.Keeps (readKeysCommand p n s).1 := by
  unfold Machine.readKeysCommand
  split
  · exact h
  dsimp only
  split
  · exact h
  · exact h.of_queues (by rfl) fun k => { k with keyQueue := (dropTagged_sublist p _ _).length_le.trans k.keyQueue }

theorem feedCommand (h : r.Keeps s) (n : Byte) : r.Keeps (feedCommand n s).1 := by
  have raised : r.Keeps { s with arb.feeds := min 9 (s.arb.feeds + n.toNat) } :=
    h.of_queues (by rfl) fun k => { k with feeds := Nat.min_le_left _ _ }
  unfold Machine.feedCommand
  split
  · exact h
  · exact raised.settle

theorem drainMarkCommand (h : r.Keeps s) (p : Port) (b : Byte) : r.Keeps (drainMarkCommand p b s).1 := by
  unfold Machine.drainMarkCommand
  split
  · exact h
  · exact (h.same (by rfl)).testLineMark p
  · exact (h.same (by rfl)).testPrintMark p

theorem ackEventCommand (h : r.Keeps s) (p : Port) (b : Byte) : r.Keeps (ackEventCommand p b s).1 := by
  unfold Machine.ackEventCommand
  split
  · exact h
  dsimp only
  split
  · exact h
  · exact h.setUnit p fun k n o set => by
      simp only [EventUnit.acknowledge, Fin.getElem_fin, Vector.getElem_set] at set
      split at set
      · cases set
      · exact k n o set

theorem readAlertsCommand (h : r.Keeps s) (p : Port) : r.Keeps (readAlertsCommand p s).1 := by
  unfold Machine.readAlertsCommand
  dsimp only
  split
  · exact h
  · exact h.setUnit p id

theorem settingStored (h : r.Keeps s) (k : Setting) : r.Keeps (s.settingStored k) := by
  unfold State.settingStored
  split
  · exact ite (fun _ => h) fun _ => h.same rfl
  · exact settle (ite (fun _ => h) fun _ => h.changePrintMarks _)
  · exact h.settle
  · exact h

theorem configureCommand (h : r.Keeps s) (k : Byte) (v : BitVec 16) : r.Keeps (configureCommand k v s).1 := by
  unfold Machine.configureCommand
  split
  · exact h
  split
  · exact h
  split
  · exact h
  · exact (h.same (by rfl)).settingStored _

theorem controllerReset (h : r.Keeps s) : r.Keeps s.controllerReset := by
  refine h.trans ⟨fun z => ?_, fun _ => BuffersBounded.reset.of_queues rfl, fun k => ?_, fun _ =>
    ⟨EventUnit.reset_countsInRange, EventUnit.reset_countsInRange, CountsInRange.reset.counters⟩, rfl⟩
  · have slot (i : SlotId) : s.controllerReset.slot i = (s.slot i).controllerReset := by
      simp [State.slot, State.controllerReset]
    refine z.of_placement ?_ fun i => ?_
    · rw [slot]
      simp [Slot.controllerReset, Slot.placement, Slot.isChainKind, z.kind]
    · rw [slot]
      exact z.unlinked i
  · cases state : s.engine.state
    case row | blank | idle =>
      exact k.of_head (by simp [State.head, State.controllerReset, Engine.stop, Engine.clearStalls, state])
    case held =>
      exact .quiet (by simp [State.controllerReset, Engine.stop, Engine.enterIdle, state])
        (by simp [State.controllerReset, Engine.stop, Engine.enterIdle, state])

/-- What a command of the command table does at a port keeps everything, by its own rule (R190). -/
theorem runCommand (h : r.Keeps s) (c : PortCommand) (p : Port) : r.Keeps (runCommand c p s).1 := by
  cases c with
  | claim k => exact h.claimCommand p k
  | release i => exact h.releaseCommand p i
  | setAttributes i pr n f rt k b => exact h.setAttributesCommand p i pr n f rt k b
  | writeText i o n e bytes => exact h.writeTextCommand p i o n e bytes
  | readText i o n =>
    refine h.onSlot fun i => ?_
    split <;> exact h
  | readFlaws i => exact h.onSlot fun _ => h
  | readSlotInfo i => exact h.onSlot fun _ => h
  | hold i => exact h.holdCommand p i
  | unhold i => exact h.unholdCommand p i
  | post i => exact h.postCommand p i
  | repost i => exact h.repostCommand p i
  | edit i => exact h.editCommand p i
  | withdraw i => exact h.withdrawCommand p i
  | arm i => exact h.armCommand p i
  | connect m => exact h.connectCommand m
  | hangUp m => exact h.hangUpCommand m
  | lineReset => exact h.resetLine
  | sendBreak => exact h.breakCommand
  | clearCounters =>
    exact h.counters fun _ => (Counters.bounded_iff _).2 (by simp [Counters.zero])
  | readOpenText n => exact h.readOpenTextCommand p n
  | takeFocus => exact h.takeFocusCommand p
  | giveFocus => exact h.giveFocusCommand p
  | readKeys n => exact h.readKeysCommand p n
  | feed n => exact h.feedCommand n
  | drainMark x => exact h.drainMarkCommand p x
  | ackEvent n => exact h.ackEventCommand p n
  | setEventMask m => exact h.setUnit p id
  | setAlertEnables m => exact h.setUnit p id
  | readAlerts => exact h.readAlertsCommand p
  | configure k v => exact h.configureCommand k v
  | readSetting k =>
    unfold Machine.runCommand readSettingCommand
    dsimp only
    split <;> exact h
  | controllerReset => exact h.controllerReset
  | readLineStatus | readPrintStatus | readDrain | readEvent | readStatus => exact h

theorem attach (h : r.Keeps s) (p : Port) : r.Keeps (s.attach p) := h.same rfl

theorem respond (h : r.Keeps s) (p : Port) (x : Response) : r.Keeps (s.respond p x) := by
  cases p <;> exact h.same rfl

theorem execute (h : r.Keeps s) (p : Port) (c : PortCommand) : r.Keeps (s.execute p (Machine.runCommand c p)) :=
  ((h.attach p).runCommand c p).respond p _

theorem ignoreTransaction (h : r.Keeps s) (p : Port) : r.Keeps (s.ignoreTransaction p) :=
  ite (fun _ => h.same rfl) fun _ => h

theorem servePort (h : r.Keeps s) (p : Port) (c : PortCommand) : r.Keeps (s.servePort p (Machine.runCommand c p)) :=
  ite (fun _ => h.execute p c) fun _ => h.ignoreTransaction p

theorem endWrite (h : r.Keeps s) (bytes : List Byte) : r.Keeps (s.endWrite bytes) := by
  unfold State.endWrite
  split
  · exact h
  · exact h.raise _ _
  · exact (h.raise _ _).respond _ _
  · exact h.execute _ _

theorem shortSelect (h : r.Keeps s) (cmd : Option Byte) : r.Keeps (s.shortSelect cmd) := by
  cases cmd with
  | none => exact h
  | some b => exact h.raise _ _

end State.Keeps

/-! ## Every command, every step -/

/-- A row of the command table on a port is the command served there. -/
theorem exec_commandOn (c : PortCommand) (p : Port) (s : State) :
    exec (commandOn p c) s = .next (s.servePort p (runCommand c p)) := by
  cases c <;> rfl

/-- Every command answers a next state, to which every invariant comes through. -/
theorem exec_keeps (i : Instr) (s : State) : ∃ t, exec i s = .next t ∧ s.Keeps t := by
  have h := State.Keeps.refl s
  have served (p : Port) (c : PortCommand) : ∃ t, exec (commandOn p c) s = .next t ∧ s.Keeps t :=
    ⟨_, exec_commandOn c p s, h.servePort p c⟩
  cases i with
  | claim p k => exact served p (.claim k)
  | release p i => exact served p (.release i)
  | setAttributes p i pr n f r k b => exact served p (.setAttributes i pr n f r k b)
  | writeText p i o n e bytes => exact served p (.writeText i o n e bytes)
  | readText p i o n => exact served p (.readText i o n)
  | readFlaws p i => exact served p (.readFlaws i)
  | readSlotInfo p i => exact served p (.readSlotInfo i)
  | hold p i => exact served p (.hold i)
  | unhold p i => exact served p (.unhold i)
  | post p i => exact served p (.post i)
  | repost p i => exact served p (.repost i)
  | edit p i => exact served p (.edit i)
  | withdraw p i => exact served p (.withdraw i)
  | arm p i => exact served p (.arm i)
  | connect p m => exact served p (.connect m)
  | hangUp p m => exact served p (.hangUp m)
  | lineReset p => exact served p .lineReset
  | sendBreak p => exact served p .sendBreak
  | readLineStatus p => exact served p .readLineStatus
  | clearCounters p => exact served p .clearCounters
  | readOpenText p n => exact served p (.readOpenText n)
  | takeFocus p => exact served p .takeFocus
  | giveFocus p => exact served p .giveFocus
  | readKeys p n => exact served p (.readKeys n)
  | feed p n => exact served p (.feed n)
  | readPrintStatus p => exact served p .readPrintStatus
  | drainMark p x => exact served p (.drainMark x)
  | readDrain p => exact served p .readDrain
  | readEvent p => exact served p .readEvent
  | ackEvent p n => exact served p (.ackEvent n)
  | setEventMask p m => exact served p (.setEventMask m)
  | setAlertEnables p m => exact served p (.setAlertEnables m)
  | readAlerts p => exact served p .readAlerts
  | configure p k v => exact served p (.configure k v)
  | readSetting p k => exact served p (.readSetting k)
  | readStatus p => exact served p .readStatus
  | controllerReset p => exact served p .controllerReset
  | portASelectShort cmd =>
    refine ⟨_, rfl, ?_⟩
    exact .ite (fun _ => (h.shortSelect cmd).same rfl) fun _ => .ite (fun _ => h) fun _ => h.same rfl
  | portAUnknownCommand cmd =>
    refine ⟨_, rfl, ?_⟩
    exact .ite (fun _ => h) fun _ => .ite (fun _ => (h.raise _ _).respond _ _) fun _ => h.ignoreTransaction _
  | portBWriteEnd w => exact ⟨_, rfl, .ite (fun _ => h.endWrite _) fun _ => h⟩
  | portBRead => exact ⟨_, rfl, h⟩
  | portBTimeout cmd => exact ⟨_, rfl, .ite (fun _ => h.raise _ _) fun _ => h⟩
  | resetnAsserted => exact ⟨_, rfl, h.resetnAsserted⟩
  | resetnReleased => exact ⟨_, rfl, .ite (fun _ => h.same rfl) fun _ => h⟩
  | startupIgnoreEnd => exact ⟨_, rfl, .ite (fun _ => h.same rfl) fun _ => h⟩
  | characterComplete => exact ⟨_, rfl, .ite (fun _ => h.characterDone.settleAfter _) fun _ => h⟩
  | breakComplete => exact ⟨_, rfl, .ite (fun _ => (h.same (by rfl)).settle) fun _ => h⟩
  | zeroCrossing n => exact ⟨_, rfl, .ite (fun _ => h) fun _ => h.recordHalfPeriod _⟩
  | crossingCounter4095 => exact ⟨_, rfl, .ite (fun _ => h) fun _ => h.recordHalfPeriod _⟩
  | qualifyRunExpired => exact ⟨_, rfl, .ite (fun _ => h.carrierQualified) fun _ => h⟩
  | silenceTimerExpired => exact ⟨_, rfl, .ite (fun _ => h.carrierFading) fun _ => h⟩
  | requalifyTimerExpired => exact ⟨_, rfl, .ite (fun _ => h.same rfl) fun _ => h⟩
  | fadeTimerExpired => exact ⟨_, rfl, .ite (fun _ => h.carrierLost) fun _ => h⟩
  | characterReceived b pf ss => exact ⟨_, rfl, .ite (fun _ => (h.same (by rfl)).characterIn _ _) fun _ => h⟩
  | breakReceived => exact ⟨_, rfl, .ite (fun _ => h.breakIn _) fun _ => h⟩
  | breakEnd => exact ⟨_, rfl, .ite (fun _ => h.same rfl) fun _ => h⟩
  | connectTimerExpired => exact ⟨_, rfl, .ite (fun _ => h.goIdle _) fun _ => h⟩
  | clearingTimerExpired => exact ⟨_, rfl, .ite (fun _ => (h.failActive _).goIdle _) fun _ => h⟩
  | replyTimerExpired =>
    refine ⟨_, rfl, ?_⟩
    split
    · exact .ite (fun _ => (h.retryRecord _ _).settleAfter _) fun _ => h
    · exact h
  | sendHoldTimerExpired =>
    refine ⟨_, rfl, ?_⟩
    split
    · exact (h.giveUpChain _).settleAfter _
    · exact h
  | answerbackHoldExpired =>
    refine ⟨_, rfl, ?_⟩
    split
    · exact h.giveUpAnswerback.settleAfter _
    · exact h
  | sendMaskTimerExpired p => exact ⟨_, rfl, .ite (fun _ => (h.same (by rfl)).settle) fun _ => h⟩
  | flowLimitTimerExpired => exact ⟨_, rfl, .ite (fun _ => h.flowExpired.settle) fun _ => h⟩
  | scan down => exact ⟨_, rfl, .ite (fun _ => h) fun _ => (h.same (by rfl)).scanKeys down⟩
  | repeatTimerExpired =>
    refine ⟨_, rfl, ?_⟩
    split
    · exact .ite (fun _ => (h.produceRepeat _).settleAfter _) fun _ => h
    · exact h
  | liveSilenceExpired src => exact ⟨_, rfl, .ite (fun _ => (h.silenceOver src).settle) fun _ => h⟩
  | printHoldTimerExpired =>
    refine ⟨_, rfl, ?_⟩
    split
    · exact (h.giveUpPrint _).settle
    · exact h
  | printMaskTimerExpired p => exact ⟨_, rfl, .ite (fun _ => (h.same (by rfl)).settle) fun _ => h⟩
  | groupBegin =>
    refine ⟨_, rfl, ?_⟩
    split
    · next fired => exact .ite (fun _ => h.beginGroup fired) fun _ => h
    · exact h
  | groupPhase2 =>
    refine ⟨_, rfl, ?_⟩
    split
    · next fired => exact .ite (fun _ => h.beginPhase2 fired) fun _ => h
    · exact h
  | groupStrobeEnd v =>
    refine ⟨_, rfl, ?_⟩
    split
    · next fired => exact .ite (fun _ => (h.releaseStrobes fired).takeDueBattery v) fun _ => h
    · exact h
  | stepEnd => exact ⟨_, rfl, .ite (fun _ => h.endStep) fun _ => h⟩
  | paperSample out =>
    refine ⟨_, rfl, ?_⟩
    exact .ite (fun _ => h) fun _ => .ite (fun _ => (h.same (by rfl)).paperOut) fun _ => (h.same (by rfl)).paperPresent
  | paperPresentExpired => exact ⟨_, rfl, .ite (fun _ => h.paperBack) fun _ => h⟩
  | batteryTimerExpired v => exact ⟨_, rfl, .ite (fun _ => h) fun _ => (h.same (by rfl)).dueBattery v⟩
  | headTimerExpired th => exact ⟨_, rfl, .ite (fun _ => h) fun _ => (h.same (by rfl)).measureHead th⟩
  | blinkClockToggle => exact ⟨_, rfl, .ite (fun _ => h) fun _ => h.same rfl⟩
  | burstTimerExpired => exact ⟨_, rfl, h.same rfl⟩
  | bitSamplerSample => exact ⟨_, rfl, h.takeSampled _ _⟩
  | portASelectEnd => exact ⟨_, rfl, .ite (fun _ => h) fun _ => h.same rfl⟩

/-- Every step keeps every invariant: a command does, and so does a tick. -/
theorem step_keeps {s t : State} (h : step s = .next t) :
    (SlotZeroStands s → SlotZeroStands t) ∧ (BuffersBounded s → BuffersBounded t) ∧ (HeadSafe s → HeadSafe t)
      ∧ (CountsInRange s → CountsInRange t) := by
  unfold step at h
  split at h
  · cases h
    obtain ⟨slotZero, buffers, head, counts, -⟩ := (State.Keeps.refl s).tick
    exact ⟨slotZero, buffers, head, counts⟩
  · next c rest _ =>
    obtain ⟨t', run, slotZero, buffers, head, counts, -⟩ := exec_keeps c { s with pending := rest }
    obtain rfl : t' = t := by simpa [run] using h
    exact ⟨fun k => slotZero (k.of_slots rfl), fun k => buffers (k.of_queues rfl), fun k => head (k.of_head rfl),
      fun k => counts (k.of_tallies rfl)⟩

/-- Settles O5, by the rules of `State.Keeps`. -/
theorem stepKeepsSlotZero : Obligations.StepKeepsSlotZero := fun _ _ h run => (step_keeps run).1 h

/-- Settles O6, by the rules of `State.Keeps`. -/
theorem stepKeepsBuffersBounded : Obligations.StepKeepsBuffersBounded := fun _ _ h run => (step_keeps run).2.1 h

/-- Settles O7, by the rules of `State.Keeps`. -/
theorem stepKeepsHeadSafe : Obligations.StepKeepsHeadSafe := fun _ _ h run => (step_keeps run).2.2.1 h

/-- Settles O8, by the rules of `State.Keeps`. -/
theorem stepKeepsCountsInRange : Obligations.StepKeepsCountsInRange := fun _ _ ha hb hc run =>
  have h := (step_keeps run).2.2.2 ⟨ha, hb, hc⟩
  ⟨h.a, h.b, h.counters⟩

/-- Settles O2: every command answers a next state, with the queue of waiting commands as it was. -/
theorem everyCommandCompletes : Obligations.EveryCommandCompletes := fun c s =>
  have ⟨t, run, kept⟩ := exec_keeps c s
  ⟨t, run, kept.pending⟩

end Sys2Proof.Machine
end

section
/-! PROOF. The transactions of the ports (chapter 11): the bytes of a command and their reading, the ports that do not
serve, the tests of R5, and what a transaction that executes nothing does. -/

namespace Sys2Proof

/-! ## The bytes of a command (R183 to R185) -/

/-- The two bytes of a value, joined, are the value (R194). -/
theorem extractLsb'_append_extractLsb' (v : BitVec 16) : v.extractLsb' 8 8 ++ v.extractLsb' 0 8 = v := by
  rw [BitVec.extractLsb'_append_extractLsb'_eq_extractLsb' (by rfl)]
  exact BitVec.extractLsb'_eq_self

/-- Any bytes behind the text are no part of it (R185). -/
theorem textArguments_append {n : Byte} {bytes : List Byte} (fits : textLengthFits n bytes = true) (cmd i o e : Byte)
    (extra : List Byte) :
    textArguments cmd (i :: o :: n :: e :: (bytes ++ extra)) = .command (.writeText i o n e bytes) := by
  simp only [textLengthFits, decide_eq_true_eq] at fits
  simp only [textArguments]
  by_cases range : 1 ≤ n.toNat ∧ n.toNat ≤ 32
  · rw [if_pos range] at fits
    rw [if_pos range, if_pos (by simp [fits]), ← fits, List.take_left]
  · rw [if_neg range] at fits
    rw [if_neg range, List.length_eq_zero_iff.1 fits]

/-- The bytes of a command are read as that command, whatever follows them (R185). -/
theorem parseCommand_bytes {c : PortCommand} (wf : c.wellFormed = true) (extra : List Byte) :
    parseCommand (c.bytes ++ extra) = .command c := by
  cases c with
  | writeText i o n e bytes => exact textArguments_append wf 0x13 i o e extra
  | configure k v => exact congrArg (Parsed.command ∘ PortCommand.configure k) (extractLsb'_append_extractLsb' v)
  | _ => rfl

/-- A text whose bytes end too early is short (R185). -/
theorem textArguments_short {n : Byte} {bytes : List Byte} (fits : textLengthFits n bytes = true) {k : Nat}
    (early : k < bytes.length) (cmd i o e : Byte) :
    textArguments cmd (i :: o :: n :: e :: bytes.take k) = .short cmd := by
  simp only [textLengthFits, decide_eq_true_eq] at fits
  simp only [textArguments]
  by_cases range : 1 ≤ n.toNat ∧ n.toNat ≤ 32
  · rw [if_pos range] at fits
    rw [if_pos range, if_neg (by simp; omega)]
  · rw [if_neg range] at fits
    omega

/-- The bytes of a command without its last argument are short, with the command's code (R185). -/
theorem parseCommand_take {c : PortCommand} (wf : c.wellFormed = true) {k : Nat} (early : k < c.arguments.length) :
    parseCommand (c.bytes.take (k + 1)) = .short c.code := by
  cases c with
  | writeText i o n e bytes =>
    match k with
    | 0 | 1 | 2 | 3 => rfl
    | k + 4 => exact textArguments_short wf (by simpa [PortCommand.arguments] using early) 0x13 i o e
  | setAttributes i p n f r c b =>
    match k, early with
    | 0, _ | 1, _ | 2, _ | 3, _ | 4, _ | 5, _ | 6, _ => rfl
    | k + 7, early => exact absurd early (by simp [PortCommand.arguments])
  | readText | configure =>
    match k, early with
    | 0, _ | 1, _ | 2, _ => rfl
    | k + 3, early => exact absurd early (by simp [PortCommand.arguments])
  | lineReset | sendBreak | readLineStatus | clearCounters | takeFocus | giveFocus | readPrintStatus | readDrain
  | readEvent | readAlerts | readStatus | controllerReset => exact absurd early (by simp [PortCommand.arguments])
  | _ =>
    match k, early with
    | 0, _ => rfl
    | k + 1, early => exact absurd early (by simp [PortCommand.arguments])

/-! A command byte with arguments is read as a command of the table, never as an unknown one (R184). -/

@[simp] theorem oneArgument_ne_unknown (cmd b : Byte) (f : Byte → PortCommand) (args : List Byte) :
    oneArgument cmd f args ≠ .unknown b := by
  unfold oneArgument; split <;> simp

@[simp] theorem threeArguments_ne_unknown (cmd b : Byte) (f : Byte → Byte → Byte → PortCommand) (args : List Byte) :
    threeArguments cmd f args ≠ .unknown b := by
  unfold threeArguments; split <;> simp

@[simp] theorem attributeArguments_ne_unknown (cmd b : Byte) (args : List Byte) :
    attributeArguments cmd args ≠ .unknown b := by
  unfold attributeArguments; split <;> simp

@[simp] theorem textArguments_ne_unknown (cmd b : Byte) (args : List Byte) :
    textArguments cmd args ≠ .unknown b := by
  unfold textArguments
  split
  · split
    · split <;> simp
    · simp
  · simp

/-- A reading of the bytes behind a command byte that finds the command byte known whatever those bytes are, or
unknown whatever they are (R184). -/
def JudgesTheCode (cmd : Byte) (f : List Byte → Parsed) : Prop :=
  (∀ args b, f args ≠ .unknown b) ∨ ∀ args, f args = .unknown cmd

theorem JudgesTheCode.ite {cmd : Byte} {c : Prop} [Decidable c] {f g : List Byte → Parsed} (hf : JudgesTheCode cmd f)
    (hg : JudgesTheCode cmd g) : JudgesTheCode cmd fun args => if c then f args else g args := by
  by_cases h : c <;> simpa [h]

theorem judgesTheCode_parseCommand (cmd : Byte) : JudgesTheCode cmd fun args => parseCommand (cmd :: args) := by
  simp only [parseCommand, parseSlot, parseLine, parsePart]
  repeat' apply JudgesTheCode.ite
  all_goals simp [JudgesTheCode]

/-- An unknown command byte is read as itself, whatever follows it (R184). -/
theorem parseCommand_unknown {cmd : Byte} (h : knownCommand cmd = false) (rest : List Byte) :
    parseCommand (cmd :: rest) = .unknown cmd := by
  obtain known | unknown := judgesTheCode_parseCommand cmd
  · unfold knownCommand at h
    split at h
    · exact absurd ‹_› (known [] _)
    · cases h
  · exact unknown rest

end Sys2Proof

namespace Sys2Proof.Machine

open Sys2Proof

/-! ## Port B's writes (R185) -/

/-- A write that port B acknowledges does what its bytes say. -/
theorem exec_portBWriteEnd_serves {s : State} (serves : s.portServes .b = true) (bytes : List Byte) :
    exec (.portBWriteEnd ⟨s.busAddress, bytes⟩) s = .next (s.endWrite bytes) := by
  show Host.Outcome.next _ = _
  rw [if_pos (by simp [State.acknowledges, serves])]

/-- A write that port B does not acknowledge has no effect. -/
theorem exec_portBWriteEnd_ignores {s : State} {w : BusWrite} (ignored : s.acknowledges w.address = false) :
    exec (.portBWriteEnd w) s = .next s := by
  show Host.Outcome.next _ = _
  rw [if_neg (by simp [ignored])]

theorem State.endWrite_command {s : State} {c : PortCommand} {bytes : List Byte}
    (h : parseCommand bytes = .command c) : s.endWrite bytes = s.execute .b (runCommand c .b) := by
  simp only [State.endWrite, h]

theorem State.endWrite_short {s : State} {cmd : Byte} {bytes : List Byte} (h : parseCommand bytes = .short cmd) :
    s.endWrite bytes = s.raise .b (.port .short (some cmd)) := by
  simp only [State.endWrite, h]

theorem State.endWrite_unknown {s : State} {cmd : Byte} {bytes : List Byte}
    (h : parseCommand bytes = .unknown cmd) :
    s.endWrite bytes = { s.raise .b (.port .unknown (some cmd)) with lastB := [0x80] } := by
  simp only [State.endWrite, h]
  rfl

/-- Port B has no transaction to ignore: what does not reach it changes nothing (R188). -/
theorem State.ignoreTransaction_b (s : State) : s.ignoreTransaction .b = s := rfl

/-- Settles O9: the bytes are read as the command, and port B executes it, or ignores it, as it would the command. -/
theorem portBWriteIsItsCommand : Obligations.PortBWriteIsItsCommand := by
  intro c extra s wf
  have parsed := parseCommand_bytes wf extra
  refine ⟨parsed, ?_⟩
  rw [exec_commandOn]
  cases serves : s.portServes .b with
  | true =>
    rw [exec_portBWriteEnd_serves serves, State.endWrite_command parsed, State.servePort, if_pos serves]
  | false =>
    rw [exec_portBWriteEnd_ignores (by simp [State.acknowledges, serves]), State.servePort_ignores serves,
      State.ignoreTransaction_b]

/-! ## Transactions that execute nothing -/

/-- What a short or an unknown select does on port A (R183, R184). -/
theorem shortAndUnknownSelects {s : State} (serves : s.portServes .a = true) :
    (∀ cmd, takesArguments cmd = true →
      exec (.portASelectShort (some cmd)) s = .next { s.raise .a (.port .short (some cmd)) with portA := .none })
    ∧ exec (.portASelectShort none) s = .next { s with portA := .none }
    ∧ ∀ cmd, knownCommand cmd = false →
      exec (.portAUnknownCommand cmd) s =
        .next { s.raise .a (.port .unknown (some cmd)) with portA := .answered [0x80] } := by
  refine ⟨fun cmd _ => ?_, ?_, fun cmd unknown => ?_⟩
  · show Host.Outcome.next _ = _
    rw [if_pos serves]
    rfl
  · show Host.Outcome.next _ = _
    rw [if_pos serves]
    rfl
  · show Host.Outcome.next _ = _
    rw [if_neg (by simp [unknown]), if_pos serves]
    rfl

/-- What a short, an empty or an unknown write does on port B (R184, R185). -/
theorem shortAndUnknownWrites {s : State} (serves : s.portServes .b = true) :
    (∀ (c : PortCommand) (k : Nat), c.wellFormed = true → k < c.arguments.length →
      exec (.portBWriteEnd ⟨s.busAddress, c.bytes.take (k + 1)⟩) s = .next (s.raise .b (.port .short (some c.code))))
    ∧ exec (.portBWriteEnd ⟨s.busAddress, []⟩) s = .next s
    ∧ ∀ cmd rest, knownCommand cmd = false →
      exec (.portBWriteEnd ⟨s.busAddress, cmd :: rest⟩) s =
        .next { s.raise .b (.port .unknown (some cmd)) with lastB := [0x80] } := by
  refine ⟨fun c k wf early => ?_, exec_portBWriteEnd_serves serves [], fun cmd rest unknown => ?_⟩
  · rw [exec_portBWriteEnd_serves serves, State.endWrite_short (parseCommand_take wf early)]
  · rw [exec_portBWriteEnd_serves serves, State.endWrite_unknown (parseCommand_unknown unknown rest)]

/-- A byte of a read of port B (R186). -/
theorem State.readB_byte (s : State) (a : BitVec 7) {n i : Nat} (h : i < n) :
    (s.readB a n)[i]? =
      some (if s.power = .serving ∧ a = s.busAddress then s.lastB.getD i 0xFF else 0xFF) := by
  simp [State.readB, h, State.acknowledges, State.portServes]

/-- SDO with no select or with RESETN low is high-impedance. -/
theorem State.sdo_unselected {s : State} {selected : Bool} (h : s.power = .held ∨ selected = false) (taken i : Nat) :
    s.sdo selected taken i = none := by
  rcases h with h | h <;> simp [State.sdo, h]

/-- SDO in a select with an answer: 0xFF while the command is taken in, then the answer, then 0xFF. -/
theorem State.sdo_answered {s : State} (h : s.power ≠ .held) {r : List Byte} (answered : s.portA = .answered r)
    (taken i : Nat) :
    (i < taken → s.sdo true taken i = some 0xFF) ∧ s.sdo true taken (taken + i) = some (r.getD i 0xFF) := by
  simp +contextual [State.sdo, h, answered]

/-- SDO in a select without an answer sends 0xFF. -/
theorem State.sdo_unanswered {s : State} (h : s.power ≠ .held) (none : ∀ r, s.portA ≠ .answered r) (taken i : Nat) :
    s.sdo true taken i = some 0xFF := by
  cases select : s.portA with
  | answered r => exact absurd select (none r)
  | none | ignored => simp [State.sdo, h, select]

/-- Settles O10. -/
theorem transactionsThatExecuteNothing : Obligations.TransactionsThatExecuteNothing := by
  refine ⟨fun s => ⟨shortAndUnknownSelects, shortAndUnknownWrites⟩, fun s => ⟨rfl, fun w other => ?_, rfl, ?_⟩,
    fun s selected taken i => ⟨fun h => State.sdo_unselected h taken i, fun held _ =>
      ⟨fun r answered => State.sdo_answered held answered taken i, fun h => State.sdo_unanswered held h taken i⟩⟩,
    fun s cmd serves => ?_, fun s held => ?_⟩
  · refine exec_portBWriteEnd_ignores ?_
    rcases other with h | h <;> simp [State.acknowledges, State.portServes, h]
  · exact fun a n i => s.readB_byte a
  · show Host.Outcome.next _ = _
    rw [if_pos serves]
  · show Host.Outcome.next _ = _
    rw [if_neg held]
    rfl

/-! ## Ports that do not serve (R188) -/

/-- Settles O11. -/
theorem portsIgnoreBeforeService : Obligations.PortsIgnoreBeforeService := by
  intro s p c
  have ignores : ∀ q, s.portServes q = false →
      exec (commandOn q c) s = .next (s.ignoreTransaction q) := fun q h => by
    rw [exec_commandOn, State.servePort_ignores h]
  refine ⟨fun held => ?_, fun ignoring => ⟨?_, ?_⟩, fun ignored serving => ?_⟩
  · rw [ignores p (by simp [State.portServes, held])]
    simp [State.ignoreTransaction, held]
  · rw [ignores .b (by simp [State.portServes, ignoring]), State.ignoreTransaction_b]
  · rw [ignores .a (by simp [State.portServes, ignoring])]
    simp [State.ignoreTransaction, ignoring]
  · rw [ignores .a (by simp [State.portServes, ignored])]
    simp [State.ignoreTransaction, serving]

/-! ## The slot a command names (R5) -/

/-- Every slot command but CLAIM goes through the tests of R5 on the slot it names. -/
theorem runCommand_onSlot {c : PortCommand} {b : Byte} (named : slotNamed c = some b) (p : Port) :
    ∃ f : State → SlotId → State × Response, ∀ s, runCommand c p s = onSlot s p b (allowsAnyPort c) (f s) := by
  cases c with
  | release | setAttributes | writeText | readText | readFlaws | readSlotInfo | hold | unhold | post | repost | edit
  | withdraw | arm =>
    cases named
    exact ⟨_, fun s => rfl⟩
  | _ => cases named

/-- A slot command whose tests fail is refused and changes nothing. -/
theorem exec_commandOn_refused {s : State} {p : Port} {c : PortCommand} {b : Byte} {r : Result}
    (serves : s.portServes p = true) (named : slotNamed c = some b)
    (fails : slotTest (s.attach p) p b (allowsAnyPort c) = .error r) :
    exec (commandOn p c) s = .next (s.answeredOnly p r) := by
  obtain ⟨f, run⟩ := runCommand_onSlot named p
  rw [exec_commandOn, State.servePort_refused serves]
  rw [run, onSlot, fails]

/-- Settles O12: the first of the tests that fails gives the refusal. -/
theorem slotCommandsTestTheSlot : Obligations.SlotCommandsTestTheSlot := by
  intro s p c b serves named
  refine ⟨fun above => ?_, fun i hb => ⟨fun free => ?_, fun taken other closed => ?_⟩⟩ <;>
    refine exec_commandOn_refused serves named ?_
  · have : slotArg b = none := dif_neg (by omega)
    simp [slotTest, this]
  · simp [slotTest, slotArg_of hb, free]
  · have any : (allowsAnyPort c && decide (i = 0)) = false := by
      simpa [imp_not_comm] using closed
    have test : ((s.attach p).slot i).state ≠ .free ∧ ((s.attach p).slot i).owner ≠ some p := ⟨taken, other⟩
    simp only [slotTest, slotArg_of hb, if_neg test.1, any, decide_eq_false test.2, Bool.or_self, Bool.false_eq_true,
      if_false]

/-! ## The RESET pin -/

/-- A line that is held, or none, leaves nothing of the engine under RESETN but the motor's place and the record. -/
theorem Engine.resetnAsserted_stopped {e : Engine} (h : e.state = .idle ∨ e.state = .held) :
    e.resetnAsserted = { Engine.reset with
      sampleTimer := none, phaseIndex := e.phaseIndex, stepCounter := e.stepCounter, record := e.record } := by
  rcases h with h | h <;> simp only [Engine.resetnAsserted, h]

/-- A step under way goes on under RESETN, its line to be discarded (R164). -/
theorem Engine.resetnAsserted_stepping {e : Engine} (h : e.state = .row ∨ e.state = .blank) :
    e.resetnAsserted = { Engine.reset with
      sampleTimer := none, phaseIndex := e.phaseIndex, stepCounter := e.stepCounter, record := e.record,
      state := e.state, line := e.line, step := e.step, stopRequested := true, firing := e.firing, latch := e.latch,
      strobes := e.strobes, stepTimer := e.stepTimer, groupTimer := e.groupTimer } := by
  rcases h with h | h <;> simp only [Engine.resetnAsserted, h]

/-- What RESETN held and released, and the 2 ms over, leave with no step under way (R188). -/
theorem State.startup_eq_reset {s : State} (h : s.engine.state = .idle ∨ s.engine.state = .held) :
    s.resetnAsserted.resetnReleased.startupOver = { State.reset with
      portA := if Config.selectAtStartup s.startups then .ignored else .none
      addrHigh := s.addrHigh, startups := s.startups + 1, pending := s.pending } := by
  simp only [State.startupOver, State.resetnReleased, State.resetnAsserted, Engine.resetnAsserted_stopped h]
  rfl

/-- With no paper-out pending a line's end stalls nothing (R162). -/
theorem State.paperStall_present {s : State} (h : s.engine.paperOutPending = false) : s.paperStall = s := by
  simp [State.paperStall, h]

/-- With no paper-out pending, and neither the line nor the engine to be served, a stopped step's end leaves the
engine idle
and nothing else to do. -/
theorem State.endStopped_idle {s : State} (pending : s.engine.paperOutPending = false) (idle : s.sup.state = .idle)
    (held : s.power = .held) :
    s.endStopped = { s with engine := { s.engine.motorStep.enterIdle with stopRequested := false } } := by
  rw [State.endStopped, State.paperStall_present]
  · exact State.settle_off (by simp [State.serving, idle]) (by simp [State.engineTakes, held])
  · exact pending

/-- A step under way at RESETN runs to its end (R164). -/
theorem State.resetnAsserted_stepEnd {s : State} (h : s.engine.state = .row ∨ s.engine.state = .blank) :
    exec .stepEnd s.resetnAsserted = .next { s.resetnAsserted with
      engine := { s.resetnAsserted.engine.motorStep.enterIdle with stopRequested := false } } := by
  have engine : s.resetnAsserted.engine = _ := Engine.resetnAsserted_stepping h
  show Host.Outcome.next _ = _
  rw [if_pos (by rw [engine]; simpa using h), State.endStep, if_pos (by rw [engine])]
  exact congrArg _ (State.endStopped_idle (by rw [engine]; rfl) rfl rfl)

/-- Settles O3: the three commands composed give the reset state; a step under way is followed to its end. -/
theorem resetPin : Obligations.ResetPin := by
  refine ⟨fun s h => ⟨_, _, _, rfl, rfl, rfl, rfl, rfl, rfl, rfl, ?_, ?_, rfl⟩, fun s h => ?_⟩
  · show s.resetnAsserted.resetnReleased.startupOver = _
    rw [State.startup_eq_reset h]
    rfl
  · show s.resetnAsserted.resetnReleased.startupOver.portA = _ ∨ _
    rw [State.startup_eq_reset h]
    have select : ∀ b : Bool, (if b then PortASelect.ignored else .none) = .none
        ∨ (if b then PortASelect.ignored else .none) = .ignored := by decide
    exact select _
  · have engine : s.resetnAsserted.engine = _ := Engine.resetnAsserted_stepping h
    refine ⟨_, _, rfl, ?_, ?_, ?_, ?_, ?_, ?_, ?_, State.resetnAsserted_stepEnd h, rfl, rfl, rfl, ?_, ?_, rfl⟩ <;>
      simp only [engine] <;> rfl

/-! ## The state after reset -/

/-- Settles O4: each block by its definition, each invariant by its lemma at reset. -/
theorem resetValuesAndInvariants : Obligations.ResetValuesAndInvariants := by
  refine ⟨fun i => ?_, ⟨rfl, rfl, rfl, rfl, rfl, rfl, rfl, rfl, rfl, rfl, rfl, rfl, rfl⟩, rfl, rfl, rfl,
    ⟨?_, rfl, rfl, rfl, rfl, rfl, rfl, rfl, rfl⟩, rfl,
    ⟨rfl, rfl, rfl, rfl, rfl, rfl, rfl, rfl, rfl, rfl, rfl, rfl, rfl, rfl, rfl, rfl⟩,
    ⟨rfl, rfl, rfl, rfl, rfl, rfl, rfl, rfl⟩, ?_, rfl, rfl, rfl, SlotZeroStands.reset, BuffersBounded.reset,
    HeadSafe.reset, EventUnit.reset_countsInRange, EventUnit.reset_countsInRange, ?_⟩
  · rw [State.reset_slot]
    by_cases h : i = 0 <;> simp only [h, if_true, if_false] <;> rfl
  · intro p
    simp [State.reset, Keyboard.reset]
  · intro p
    refine ⟨?_, ?_, ?_, ?_, fun n => ?_⟩ <;> cases p <;> simp [State.reset, EventUnit.reset, PerPort.get]
  · exact (Counters.bounded_iff _).2 (by decide)

/-! ## The clock -/

/-- The phase a modulator sample adds (R28). -/
theorem increment_eq (m : Mode) (l : Level) :
    increment (transmitHigh m) l = match m, l with
      | .answer, .mark => 4588
      | .answer, .space => 4178
      | _, .mark => 2417
      | _, .space => 2007 := by
  cases m <;> cases l <;> rfl

/-- When a modulator sample falls in the tick (R28, R29). -/
theorem Modem.sampleAt_eq (m : Modem) :
    m.sampleAt = if m.modulator ≠ .off ∧ 121 ≤ m.sampleClock then some (125 - m.sampleClock) else none := by
  by_cases off : m.modulator = .off
  · simp [Modem.sampleAt, off]
  · by_cases due : 121 ≤ m.sampleClock
    · simp [Modem.sampleAt, off, due, show ¬m.sampleClock + 4 < 125 by omega]
    · simp [Modem.sampleAt, off, due, show m.sampleClock + 4 < 125 by omega]

/-- The half-period that LOOP's own output makes in a tick (R46). -/
theorem State.loopCrossing_eq (before : Modem) (s : State) :
    s.loopCrossing before =
      if s.modem.mode = .loop ∧ s.modem.modulator ≠ .off ∧ s.modem.sampleSign ≠ before.sampleSign then
        s.recordHalfPeriod s.modem.crossing
      else s := by
  have loop : demodInput s.modem.mode = .modulator ↔ s.modem.mode = .loop := by
    cases s.modem.mode <;> simp [demodInput]
  simp [State.loopCrossing, loop, and_assoc]

/-- The sign of the sample is that of the sine of the phase, which is positive in the lower half of the phases. -/
theorem Modem.sampleSign_iff {m : Modem} (h0 : m.phase ≠ 0) (h1 : m.phase ≠ 0x8000) :
    m.sampleSign = true ↔ m.phase.toNat < 32768 := by
  have : m.phase.getLsbD 15 = decide (32768 ≤ m.phase.toNat) := by
    rw [← BitVec.msb_eq_getLsbD_last (w := 16) m.phase, BitVec.msb_eq_decide]
  rw [Modem.sampleSign, if_neg (by rw [decide_eq_false h0, decide_eq_false h1]; decide), this]
  simp

/-- Settles O1: the tick field by field; the modem's fields by whether a sample falls in the tick and whether it takes
a carrier-off. -/
theorem stepRunsTheFrontCommand : Obligations.StepRunsTheFrontCommand := by
  refine ⟨fun c rest s => rfl, fun s empty => ?_⟩
  intro engine off sampled cut quarter tone added t
  have step_eq : step s = .next s.tick := by simp only [step, empty]
  have modem : s.modem.tick s.settings.lineSpeed = t.modem := by
    by_cases on : s.modem.modulator = .off
    · have sampleAt : s.modem.sampleAt = none := by rw [Modem.sampleAt_eq, if_neg (by simp [on])]
      simp [t, off, sampled, cut, on, Modem.tick, Modem.tickModulator, sampleAt, Modulator.tick, tickTimer]
    by_cases due : 121 ≤ s.modem.sampleClock
    · have sampleAt : s.modem.sampleAt = some quarter := by rw [Modem.sampleAt_eq, if_pos ⟨on, due⟩]
      by_cases offDue : s.modem.offDue = true
      · simp [t, off, sampled, cut, on, due, offDue, Modem.tick, Modem.tickModulator, sampleAt, Modem.enterOff,
          tickTimer]
      · have sent : s.modem.modulator.levelAt s.settings.lineSpeed quarter = tone := by
          simp only [tone]
          cases s.modem.modulator with
          | breaking left => cases left <;> rfl
          | _ => rfl
        have turn : increment (transmitHigh s.modem.mode) tone = added := increment_eq s.modem.mode tone
        have clock : s.modem.sampleClock + 4 - 125 = s.modem.sampleClock - 121 := by omega
        simp only [t, off, sampled, cut, on, due, offDue, Modem.tick, Modem.tickModulator, sampleAt, tickTimer, sent, turn,
          clock, not_false_eq_true, and_self, and_false, or_self, Bool.false_eq_true, if_true, if_false]
        cases s.modem.modulator with
        | breaking left => cases left <;> rfl
        | _ => rfl
    · have sampleAt : s.modem.sampleAt = none := by rw [Modem.sampleAt_eq, if_neg (by simp [due])]
      simp only [t, off, sampled, cut, on, due, Modem.tick, Modem.tickModulator, sampleAt, tickTimer,
        not_false_eq_true, and_false, false_and, or_self, if_false]
      cases s.modem.modulator with
      | breaking left => cases left <;> rfl
      | _ => rfl
  have tick : s.power ≠ .held → s.tick = t.loopCrossing s.modem := fun running => by
    rw [State.tick, if_neg running, modem]
    rfl
  have mode : t.modem.mode = s.modem.mode := rfl
  refine ⟨fun held => ?_, fun running quiet => ?_, fun running loop on crosses => ?_, Modem.sampleSign_iff⟩
  · rw [step_eq, State.tick, if_pos held]
    rfl
  · rw [step_eq, tick running, State.loopCrossing_eq, mode, if_neg]
    rintro ⟨loop, on, crosses⟩
    rcases quiet with h | h | h <;> contradiction
  · rw [step_eq, tick running, State.loopCrossing_eq, mode, if_pos ⟨loop, on, crosses⟩]


end Sys2Proof.Machine
end

section
/-! PROOF. The slot store (chapter 1) and WITHDRAW (sections 5.6 and 7.5): RELEASE, SET ATTRIBUTES, the reads of a slot,
HOLD and UNHOLD, POST and REPOST, WITHDRAW, and the requests on a chain. The walk along the successor links is
characterised first; each rule then has one equation of its handler per case. -/

namespace Sys2Proof.Machine

open Sys2Proof

/-! ## The walk along the successor links (R16) -/

/-- With enough steps the walk from the first slot of linked slots is those slots. -/
theorem walkFrom_of_linked {s : State} {l : List SlotId} (linked : s.linked l) {i : SlotId}
    (first : l.head? = some i) {n : Nat} (enough : l.length ≤ n) : walkFrom s.slots n i = l := by
  induction l generalizing i n with
  | nil => exact linked.elim
  | cons j l ih =>
    obtain rfl : j = i := Option.some.inj first
    obtain ⟨n, rfl⟩ : ∃ m, n = m + 1 := ⟨n - 1, by simp at enough; omega⟩
    cases l with
    | nil =>
      have last : s.slots[j].successor = none := linked
      simp only [walkFrom, last]
    | cons k l =>
      obtain ⟨next, rest⟩ := linked
      have next : s.slots[j].successor = some k := next
      simp only [walkFrom, next]
      rw [ih rest rfl (by simpa using enough)]

/-- The walk begins with its first slot. -/
theorem walkFrom_succ_eq_cons (slots : Vector Slot 24) (n : Nat) (i : SlotId) :
    ∃ l, walkFrom slots (n + 1) i = i :: l := ⟨_, rfl⟩

/-- A walk that ends before its steps do is linked to its end. -/
theorem linked_walkFrom {s : State} {n : Nat} {i : SlotId} (ends : (walkFrom s.slots (n + 1) i).length ≤ n) :
    s.linked (walkFrom s.slots (n + 1) i) := by
  induction n generalizing i with
  | zero => simp [walkFrom] at ends
  | succ n ih =>
    unfold walkFrom at ends ⊢
    cases next : s.slots[i].successor with
    | none => exact next
    | some j =>
      simp only [next] at ends ⊢
      have rest := ih (i := j) (by simpa using ends)
      obtain ⟨l, walk⟩ := walkFrom_succ_eq_cons s.slots n j
      rw [walk] at rest ⊢
      exact ⟨next, rest⟩

/-- The members of a chain of at most 8. -/
theorem State.members_of_chainFrom {s : State} {i : SlotId} {test : Slot → Prop} {l : List SlotId}
    (chain : s.chainFrom i test l) : s.members i = l := by
  obtain ⟨first, linked, -, short, -⟩ := chain
  exact walkFrom_of_linked linked first short

/-- POST and REPOST find a chain exactly when the walk is one of 1 to 8 members, none repeated, each passing the test
(R16, R18). -/
theorem State.chainFound_iff (s : State) (i : SlotId) (test : Slot → Bool) :
    s.chainFound i test = true ↔ ∃ l, s.chainFrom i (fun x => test x = true) l := by
  simp only [State.chainFound, Bool.and_eq_true, decide_eq_true_eq, List.all_eq_true]
  constructor
  · rintro ⟨⟨short, distinct⟩, tests⟩
    exact ⟨_, rfl, linked_walkFrom short, distinct, short, tests⟩
  · rintro ⟨l, first, linked, distinct, short, tests⟩
    rw [walkFrom_of_linked linked first (by omega)]
    exact ⟨⟨short, distinct⟩, tests⟩

/-- A chain's test may be replaced by an equivalent one. -/
theorem State.chainFrom_congr {s : State} {i : SlotId} {test test' : Slot → Prop} (same : ∀ x, test x ↔ test' x)
    {l : List SlotId} : s.chainFrom i test l ↔ s.chainFrom i test' l := by
  simp only [State.chainFrom, same]

/-! ## RELEASE (R8 to R10) -/

/-- Behind a slot whose chain has not ended no member is split off (R9). -/
theorem State.membersAfter_eq_nil {s : State} {i : SlotId}
    (whole : ¬((s.slot i).chains ∧ (s.slot i).state ∈ [SlotState.done, .aborted, .failed])) :
    s.membersAfter i = [] := by
  rw [State.membersAfter, if_neg]
  simpa using whole

/-- Behind a slot released in an end state, the members of its chain that follow it (R9). -/
theorem State.membersAfter_of_chainFrom {s : State} {i : SlotId} (chains : (s.slot i).chains)
    (ended : (s.slot i).state ∈ [SlotState.done, .aborted, .failed]) {l : List SlotId}
    (chain : s.chainFrom i (fun x => x.chainHead = (s.slot i).chainHead) (i :: l)) :
    s.membersAfter i = l ∧ (s.slot i).successor = l.head? := by
  obtain ⟨-, linked, -, short, heads⟩ := chain
  rw [State.membersAfter, if_pos (Bool.and_eq_true_iff.2 ⟨(Slot.isChainKind_iff _).2 chains,
    (SlotState.isEnd_iff _).2 ended⟩)]
  cases l with
  | nil =>
    have last : (s.slot i).successor = none := linked
    simp [last]
  | cons j l =>
    obtain ⟨next, rest⟩ := linked
    simp only [next]
    rw [walkFrom_of_linked rest rfl (by simp at short ⊢; omega)]
    refine ⟨List.filter_eq_self.2 fun m hm => ?_, rfl⟩
    simpa using heads m (List.mem_cons_of_mem _ hm)

theorem State.freeSlot_slot (s : State) (i j : SlotId) :
    (s.freeSlot i).slot j = if j = i then { Slot.unclaimed with text := (s.slot j).text } else
      { s.slot j with
        successor := if (s.slot j).successor = some i then none else (s.slot j).successor
        chainHead := if (s.membersAfter i).contains j then (s.slot i).successor else (s.slot j).chainHead } := by
  rw [State.freeSlot, State.mapSlots_slot]

section Release

variable {s : State} {p : Port} {b : Byte} {i : SlotId}

theorem releaseCommand_answerback (owns : s.owns p b i) (zero : i = 0) :
    releaseCommand p b (s.attach p) = answer .ok ((s.attach p).setSlot 0 { s.slot 0 with owner := none }) := by
  rw [releaseCommand, onSlot_owns owns, if_pos zero]
  rfl

theorem releaseCommand_wrongState (owns : s.owns p b i) (general : i ≠ 0)
    (state : (s.slot i).state ∈ [SlotState.queued, .active, .copying]) :
    releaseCommand p b (s.attach p) = refuse .wrongState (s.attach p) := by
  rw [releaseCommand, onSlot_owns owns, if_neg general, State.attach_slot]
  simp only [List.mem_cons, List.not_mem_nil, or_false] at state
  rcases state with h | h | h <;> rw [h]

/-- RELEASE of a general slot in a state that allows it goes by the slot's auto-print job (R8). -/
theorem releaseCommand_frees (owns : s.owns p b i) (general : i ≠ 0)
    (state : (s.slot i).state ∈ [SlotState.held, .armed, .pending, .done, .aborted, .failed]) :
    releaseCommand p b (s.attach p) =
      if (s.slot i).job = .printing then refuse .busy (s.attach p)
      else answer .ok (if (s.slot i).job = .waiting then ((s.attach p).freeSlot i).dropJob .auto i
        else (s.attach p).freeSlot i) := by
  rw [releaseCommand, onSlot_owns owns, if_neg general, State.attach_slot]
  simp only [List.mem_cons, List.not_mem_nil, or_false] at state
  rcases state with h | h | h | h | h | h <;> simp only [h] <;> cases (s.slot i).job <;> rfl

end Release

/-- Settles O14: the cases of the handler; of the slots freed, each field by `State.freeSlot_slot`. -/
theorem releaseFreesTheSlot : Obligations.ReleaseFreesTheSlot := by
  refine fun s p b i serves owns => ⟨fun zero => ?_, fun general state => ?_, fun general state =>
    ⟨fun printing => ?_, fun quiet => ⟨((s.attach p).freeSlot i).slots, ?_, ?_, fun j other => ?_,
      fun whole j other => ?_,
      fun l chains ended chain j other => ?_⟩⟩⟩
  · exact State.servePort_next serves (releaseCommand_answerback owns zero)
  · exact State.servePort_refused serves (releaseCommand_wrongState owns general state)
  · exact State.servePort_refused serves ((releaseCommand_frees owns general state).trans (if_pos printing))
  · exact State.servePort_next serves ((releaseCommand_frees owns general state).trans (if_neg quiet))
  · exact ((s.attach p).freeSlot_slot i i).trans (if_pos rfl)
  · exact ⟨_, ((s.attach p).freeSlot_slot i j).trans (if_neg other)⟩
  · have freed := ((s.attach p).freeSlot_slot i j).trans (if_neg other)
    rw [State.membersAfter_eq_nil (s := s.attach p) whole] at freed
    show (((s.attach p).freeSlot i).slot j).chainHead = _
    rw [freed]
    rfl
  · have freed := ((s.attach p).freeSlot_slot i j).trans (if_neg other)
    obtain ⟨after, next⟩ := State.membersAfter_of_chainFrom chains ended chain
    have after : (s.attach p).membersAfter i = l := after
    have next : ((s.attach p).slot i).successor = l.head? := next
    rw [after, next] at freed
    show (((s.attach p).freeSlot i).slot j).chainHead = _
    rw [freed]
    simp

/-! ## SET ATTRIBUTES (R11) -/

theorem successorArg_eq_none {b : Byte} (h : b = 0 ∨ 24 ≤ b.toNat ∧ b.toNat ≤ 254) : successorArg b = none := by
  rcases h with rfl | ⟨above, below⟩
  · rfl
  · have absent : b ≠ 0xFF := fun h => by rw [h] at below; exact absurd below (by decide)
    have zero : b ≠ 0 := fun h => by rw [h] at above; exact absurd above (by decide)
    rw [successorArg, if_neg absent, if_neg zero, slotArg, dif_neg (by omega)]
    rfl

/-- A successor argument that names a general slot. -/
theorem successorArg_of {b : Byte} {j : SlotId} (names : b.toNat = j.val) (general : j ≠ 0) :
    successorArg b = some (some j) := by
  have absent : b ≠ 0xFF := fun h => by
    have := j.isLt
    rw [h] at names
    exact absurd names.symm (Nat.ne_of_lt (by simp; omega))
  have zero : b ≠ 0 := fun h => by
    rw [h] at names
    exact general (Fin.ext names.symm)
  rw [successorArg, if_neg absent, if_neg zero, slotArg_of names]
  rfl

/-- The successors that SET ATTRIBUTES takes: none, or a general slot that is not FREE (R11). -/
theorem State.successorOk_of {s : State} {b : Byte} {n : Option SlotId}
    (h : (b = 0xFF ∧ n = none) ∨ ∃ j : SlotId, n = some j ∧ b.toNat = j.val ∧ j ≠ 0 ∧ (s.slot j).state ≠ .free) :
    s.successorOk b = some n := by
  rcases h with ⟨rfl, rfl⟩ | ⟨j, rfl, names, general, claimed⟩
  · rfl
  · simp only [State.successorOk, successorArg_of names general, if_neg claimed]

/-- The successors that SET ATTRIBUTES refuses: slot 0, a number that names no slot, and a FREE slot (R11). -/
theorem State.successorOk_eq_none {s : State} {b : Byte} (h : b = 0 ∨ (24 ≤ b.toNat ∧ b.toNat ≤ 254)
    ∨ ∃ j : SlotId, b.toNat = j.val ∧ (s.slot j).state = .free) : s.successorOk b = none := by
  rcases h with h | h | ⟨j, names, free⟩
  · simp only [State.successorOk, successorArg_eq_none (.inl h)]
  · simp only [State.successorOk, successorArg_eq_none (.inr h)]
  · by_cases zero : j = 0
    · have : b = 0 := BitVec.eq_of_toNat_eq (by rw [names, zero]; rfl)
      simp only [State.successorOk, successorArg_eq_none (.inl this)]
    · simp only [State.successorOk, successorArg_of names zero, free, if_true]

/-- The route codes are the letters and the digits (section 11.5). -/
theorem isRouteCode_of {b : Byte} (h : b.toNat ∈ List.range' 0x41 26 ∨ b.toNat ∈ List.range' 0x30 10) :
    isRouteCode b = true := by
  simp only [List.mem_range'_1] at h
  simp only [isRouteCode, Bool.or_eq_true, Bool.and_eq_true, decide_eq_true_eq, BitVec.le_def]
  simp
  omega

theorem routeOk_of {k : Option Kind} {b : Byte} (h : b.toNat ∈ List.range' 0x41 26 ∨ b.toNat ∈ List.range' 0x30 10
    ∨ (k = some .receive ∧ b = 0x2A)) : routeOk k b = true := by
  rcases h with h | h | ⟨rfl, rfl⟩
  · simp [routeOk, isRouteCode_of (.inl h)]
  · simp [routeOk, isRouteCode_of (.inr h)]
  · rfl

theorem framingArg_of {b : Byte} {f : Framing} (h : (b, f) ∈ [((0 : Byte), Framing.plain), (1, Framing.record)]) :
    framingArg b = some f := by
  simp only [List.mem_cons, List.not_mem_nil, or_false, Prod.mk.injEq] at h
  rcases h with ⟨rfl, rfl⟩ | ⟨rfl, rfl⟩ <;> rfl

theorem framingArg_eq_none {b : Byte} (h : 2 ≤ b.toNat) : framingArg b = none := by
  have zero : b ≠ 0 := fun h' => by rw [h'] at h; exact absurd h (by decide)
  have one : b ≠ 1 := fun h' => by rw [h'] at h; exact absurd h (by decide)
  rw [framingArg, if_neg zero, if_neg one]

theorem classArg_of {b : Byte} {k : RecordClass}
    (h : (b, k) ∈ [((0x43 : Byte), RecordClass.c), (0x4E, RecordClass.n)]) :
    classArg b = some k := by
  simp only [List.mem_cons, List.not_mem_nil, or_false, Prod.mk.injEq] at h
  rcases h with ⟨rfl, rfl⟩ | ⟨rfl, rfl⟩ <;> rfl

/-! What SET ATTRIBUTES stores in a slot of each kind (R1, R11). -/

theorem Slot.withAttributes_send {x : Slot} (kind : x.kind = some .send) (t : Attributes) :
    x.withAttributes t = { x with
      priority := t.priority, successor := t.successor, framing := t.framing, route := t.route, cls := t.cls,
      copy := t.flags.getLsbD 0 } := by
  unfold Slot.withAttributes; split <;> simp_all

theorem Slot.withAttributes_print {x : Slot} (kind : x.kind = some .print) (t : Attributes) :
    x.withAttributes t = { x with priority := t.priority, successor := t.successor } := by
  unfold Slot.withAttributes; split <;> simp_all

theorem Slot.withAttributes_receive {x : Slot} (kind : x.kind = some .receive) (t : Attributes) :
    x.withAttributes t = { x with
      priority := t.priority, route := t.route, protect := t.flags.getLsbD 1, autoprint := t.flags.getLsbD 2 } := by
  unfold Slot.withAttributes; split <;> simp_all

section Attributes

variable {s : State} {p : Port} {b : Byte} {i : SlotId}

/-- The arguments of SET ATTRIBUTES that pass their tests. -/
theorem State.attributeArgs_of {s : State} {i : SlotId} {nb fb rb cb flags : Byte} {n : Option SlotId} {f : Framing}
    {k : RecordClass} (successor : s.successorOk nb = some n) (framing : framingArg fb = some f)
    (cls : classArg cb = some k) (route : routeOk (s.slot i).kind rb = true) (range : flags.toNat ≤ 7) (pr : Byte) :
    s.attributeArgs i pr nb fb rb cb flags = some ⟨min 7 pr.toNat, n, f, rb, k, flags⟩ := by
  simp [State.attributeArgs, successor, framing, cls, route, show flags.toNat < 8 by omega]

/-- One argument of SET ATTRIBUTES that fails its test is enough for the refusal. -/
theorem State.attributeArgs_eq_none {s : State} {i : SlotId} {nb fb rb cb : Byte}
    (h : s.successorOk nb = none ∨ framingArg fb = none ∨ classArg cb = none ∨ routeOk (s.slot i).kind rb = false)
    (pr flags : Byte) : s.attributeArgs i pr nb fb rb cb flags = none := by
  unfold State.attributeArgs
  split
  · rcases h with h | h | h | h <;> simp_all
  · rfl

theorem setAttributesCommand_badArg {pr nb fb rb cb flags : Byte} (owns : s.owns p b i)
    (outside : s.attributeArgs i pr nb fb rb cb flags = none) :
    setAttributesCommand p b pr nb fb rb cb flags (s.attach p) = refuse .badArg (s.attach p) := by
  have outside : (s.attach p).attributeArgs i pr nb fb rb cb flags = none := outside
  simp only [setAttributesCommand, onSlot_owns owns, outside]

theorem setAttributesCommand_checked {pr nb fb rb cb flags : Byte} {t : Attributes} (owns : s.owns p b i)
    (checked : s.attributeArgs i pr nb fb rb cb flags = some t) :
    setAttributesCommand p b pr nb fb rb cb flags (s.attach p) =
      if (s.slot i).state = .held then
        answer (if 7 < pr.toNat then .okClamped else .ok) ((s.attach p).setSlot i ((s.slot i).withAttributes t))
      else refuse .wrongState (s.attach p) := by
  have checked : (s.attach p).attributeArgs i pr nb fb rb cb flags = some t := checked
  simp only [setAttributesCommand, onSlot_owns owns, checked]
  rfl

end Attributes

/-- Settles O15: the arguments are checked first, then the state; what is stored goes by the kind. -/
theorem setAttributesStores : Obligations.SetAttributesStores := by
  refine fun s p b i pr nb fb rb cb flags serves owns =>
    ⟨fun n f k successor framing cls route range => ⟨fun held => ?_, fun other => ?_⟩, fun outside => ?_⟩
  · have checked := setAttributesCommand_checked owns
      (State.attributeArgs_of (State.successorOk_of successor) (framingArg_of framing) (classArg_of cls)
        (routeOk_of route) range pr)
    rw [if_pos held] at checked
    refine ⟨fun kind => ?_, fun kind => ?_, fun kind => ?_⟩
    · rw [Slot.withAttributes_send kind] at checked
      exact State.servePort_next serves checked
    · rw [Slot.withAttributes_print kind] at checked
      exact State.servePort_next serves checked
    · rw [Slot.withAttributes_receive kind] at checked
      exact State.servePort_next serves checked
  · exact State.servePort_refused serves ((setAttributesCommand_checked owns
      (State.attributeArgs_of (State.successorOk_of successor) (framingArg_of framing) (classArg_of cls)
        (routeOk_of route) range pr)).trans (if_neg other))
  · refine State.servePort_refused serves (setAttributesCommand_badArg owns (State.attributeArgs_eq_none ?_ pr flags))
    rcases outside with framing | cls | zero | range | free | ⟨rfl, kind⟩
    · exact .inr (.inl (framingArg_eq_none framing))
    · exact .inr (.inr (.inl (by rw [classArg, if_neg cls.1, if_neg cls.2])))
    · exact .inl (State.successorOk_eq_none (.inl zero))
    · exact .inl (State.successorOk_eq_none (.inr (.inl range)))
    · exact .inl (State.successorOk_eq_none (.inr (.inr free)))
    · exact .inr (.inr (.inr (by simp [routeOk, kind, isRouteCode])))

/-! ## The reads of a slot (R13 to R15) -/

/-- The tests 1 to 3 of R5 pass for a command that any port may send to slot 0. -/
theorem onSlot_any {s : State} {p : Port} {b : Byte} {i : SlotId} (names : b.toNat = i.val)
    (claimed : (s.slot i).state ≠ .free) (allowed : (s.slot i).owner = some p ∨ i = 0)
    (f : SlotId → State × Response) : onSlot (s.attach p) p b true f = f i := by
  rcases allowed with h | rfl
  · simp [onSlot, slotTest, slotArg_of names, claimed, h]
  · simp [onSlot, slotTest, slotArg_of names, claimed]

/-- A bit of a byte made of flag bits. -/
theorem byteOf_flagBits_getLsbD (l : List Bool) {i : Nat} (h : i < 8) :
    (byteOf (flagBits l)).getLsbD i = l.getD i false := by
  rw [byteOf, BitVec.getLsbD_ofNat, flagBits_testBit]
  simp [h]

theorem flagBits_lt_two_pow (l : List Bool) : flagBits l < 2 ^ l.length := by
  induction l with
  | nil => simp [flagBits]
  | cons b l ih =>
    simp only [flagBits, List.length_cons, pow_succ]
    split <;> omega

/-- A flaw map holds the flaws, bit by bit (R194). -/
theorem flawMap_bit {n : Nat} {l : List Bool} {q : Nat} (h : q < 8 * n) :
    ((flawMap n l).getD (q / 8) 0).getLsbD (q % 8) = l.getD q false := by
  induction n generalizing l q with
  | zero => omega
  | succ n ih =>
    by_cases first : q < 8
    · have index : q / 8 = 0 := by omega
      have place : q % 8 = q := by omega
      rw [index, place]
      show (byteOf (flagBits (l.take 8))).getLsbD q = _
      rw [byteOf_flagBits_getLsbD _ first]
      simp [List.getD, first]
    · obtain ⟨q, rfl⟩ : ∃ k, q = 8 + k := ⟨q - 8, by omega⟩
      have index : (8 + q) / 8 = q / 8 + 1 := by omega
      have place : (8 + q) % 8 = q % 8 := by omega
      rw [index, place]
      show ((flawMap n (l.drop 8)).getD (q / 8) 0).getLsbD (q % 8) = _
      rw [ih (by omega)]
      simp [List.getD]

theorem flawMap_length (n : Nat) (l : List Bool) : (flawMap n l).length = n := by
  induction n generalizing l with
  | zero => rfl
  | succ n ih => simp [flawMap, ih]

/-- The flaw map of a slot holds its flaws (R14). -/
theorem slotFlawMap_bit (x : Slot) {q : Nat} (h : q < 80) :
    ((slotFlawMap x).getD (q / 8) 0).getLsbD (q % 8) = x.flaws.getLsbD q := by
  rw [slotFlawMap, flawMap_bit (by omega)]
  simp [List.getD, h]

/-- The flags of slot info, bit by bit (R194). -/
theorem Slot.infoFlags_bits (x : Slot) :
    let flags := byteOf x.infoFlags
    flags.toNat < 128
      ∧ (flags.getLsbD 0 = true ↔ x.kind = some .send ∧ x.copy = true)
      ∧ (flags.getLsbD 1 = true ↔ x.kind = some .receive ∧ x.protect = true)
      ∧ (flags.getLsbD 2 = true ↔ x.kind = some .receive ∧ x.autoprint = true)
      ∧ (flags.getLsbD 3 = true ↔ ¬x.kind = some .receive ∧ x.hold = true)
      ∧ (flags.getLsbD 4 = true ↔ ∃ r, x.record = some r ∧ r.overwritten = true)
      ∧ (flags.getLsbD 5 = true ↔ ∃ r, x.record = some r ∧ r.bad = true)
      ∧ (flags.getLsbD 6 = true ↔ x.record ≠ none) := by
  intro flags
  have bit : ∀ i < 8, flags.getLsbD i = _ := fun i h => byteOf_flagBits_getLsbD _ h
  refine ⟨?_, ?_, ?_, ?_, ?_, ?_, ?_, ?_⟩
  · have := flagBits_lt_two_pow [x.kind = some .send && x.copy, x.kind = some .receive && x.protect,
      x.kind = some .receive && x.autoprint, x.kind ≠ some .receive && x.hold,
      (x.record.map (·.overwritten)).getD false, (x.record.map (·.bad)).getD false, x.record.isSome]
    exact Nat.lt_of_le_of_lt (Nat.mod_le _ _) this
  all_goals
    rw [bit _ (by decide)]
    cases x.record <;> simp

section Reads

variable {s : State} {p : Port} {b : Byte} {i : SlotId}

theorem readTextCommand_badArg (names : b.toNat = i.val) (claimed : (s.slot i).state ≠ .free)
    (allowed : (s.slot i).owner = some p ∨ i = 0) {offset count : Byte} (range : textRange offset count = false) :
    readTextCommand p b offset count (s.attach p) = refuse .badArg (s.attach p) := by
  rw [readTextCommand, onSlot_any names claimed allowed]
  simp [range]

theorem readTextCommand_reads (names : b.toNat = i.val) (claimed : (s.slot i).state ≠ .free)
    (allowed : (s.slot i).owner = some p ∨ i = 0) {offset count : Byte} (range : textRange offset count = true) :
    readTextCommand p b offset count (s.attach p) = (s.attach p,
      ⟨.ok, byteOf (min count.toNat ((s.slot i).length - offset.toNat)) ::
        ((s.slot i).text.toList.drop offset.toNat).take (min count.toNat ((s.slot i).length - offset.toNat))⟩) := by
  rw [readTextCommand, onSlot_any names claimed allowed]
  simp [range]

theorem readFlawsCommand_reads (owns : s.owns p b i) :
    readFlawsCommand p b (s.attach p) = (s.attach p, ⟨.ok, slotFlawMap (s.slot i)⟩) := by
  rw [readFlawsCommand, onSlot_owns owns]
  rfl

theorem readSlotInfoCommand_reads (names : b.toNat = i.val) (claimed : (s.slot i).state ≠ .free)
    (allowed : (s.slot i).owner = some p ∨ i = 0) :
    readSlotInfoCommand p b (s.attach p) = (s.attach p, ⟨.ok, slotInfo i (s.slot i)⟩) := by
  rw [readSlotInfoCommand, onSlot_any names claimed allowed]
  rfl

end Reads

theorem classByte_eq (k : RecordClass) : classByte k = if k = .c then 0x43 else 0x4E := by cases k <;> rfl

/-- Settles O17: the answers are those of the handlers; the layouts are compared byte by byte. -/
theorem slotReadsAnswerTheSlot : Obligations.SlotReadsAnswerTheSlot := by
  refine fun s p b i serves names claimed allowed =>
    ⟨fun offset count => ⟨fun outside => ?_, fun ho hc hc' => ?_⟩, fun own => ?_, byteOf (s.slot i).infoFlags, ?_⟩
  · have range : textRange offset count = false := by
      rw [Bool.eq_false_iff, ne_eq, textRange_iff]
      rintro ⟨ho, hc, hc'⟩
      rcases outside with h | rfl | h
      · omega
      · exact absurd hc (by decide)
      · omega
    exact State.servePort_refused serves (readTextCommand_badArg names claimed allowed range)
  · exact State.servePort_next serves
      (readTextCommand_reads names claimed allowed ((textRange_iff offset count).2 ⟨ho, hc, hc'⟩))
  · exact ⟨slotFlawMap (s.slot i), flawMap_length _ _,
      State.servePort_next serves (readFlawsCommand_reads ⟨names, claimed, own⟩), fun q hq => slotFlawMap_bit _ hq⟩
  · intro x send receive number
    refine ⟨(State.servePort_next serves (readSlotInfoCommand_reads names claimed allowed)).trans ?_,
      x.infoFlags_bits⟩
    refine congrArg (fun l => Host.Outcome.next ((s.attach p).respond p ⟨.ok, l⟩)) ?_
    have optional : ∀ {α : Type} (f : α → Nat) (o : Option α), optionByte f o = number (o.map f) := by
      intro α f o; cases o <;> rfl
    have chain : x.isChainKind = decide x.chains := by
      rw [Bool.eq_iff_iff, Slot.isChainKind_iff, decide_eq_true_iff]
    simp [slotInfo, optional, chain, classByte_eq, absentByte, byteOf, send, receive, x]

/-! ## HOLD and UNHOLD (R20, R21) -/

theorem Slot.holdRefusal_busy {x : Slot} (state : x.state = .active ∨ x.state = .copying) :
    x.holdRefusal = some .busy := by
  rcases state with h | h <;> simp only [Slot.holdRefusal, h]

theorem Slot.holdRefusal_wrongState {x : Slot}
    (state : x.state ∈ [SlotState.held, .done, .aborted, .failed, .armed, .pending]) :
    x.holdRefusal = some .wrongState := by
  simp only [List.mem_cons, List.not_mem_nil, or_false] at state
  rcases state with h | h | h | h | h | h <;> simp only [Slot.holdRefusal, h]

theorem Slot.holdRefusal_eq_none {x : Slot} (state : x.state = .queued ∨ x.state = .standing) :
    x.holdRefusal = none := by
  rcases state with h | h <;> simp only [Slot.holdRefusal, h]

section Hold

variable {s : State} {p : Port} {b : Byte} {i : SlotId}

theorem holdCommand_refuses {r : Result} (owns : s.owns p b i) (state : (s.slot i).holdRefusal = some r) :
    holdCommand p b (s.attach p) = refuse r (s.attach p)
      ∧ unholdCommand p b (s.attach p) = refuse r (s.attach p) := by
  constructor
  · simp only [holdCommand, onSlot_owns owns, State.attach_slot, state]
  · simp only [unholdCommand, onSlot_owns owns, State.attach_slot, state]

theorem holdCommand_holds (owns : s.owns p b i) (state : (s.slot i).holdRefusal = none) :
    holdCommand p b (s.attach p) = answer .ok ((s.attach p).setSlot i { s.slot i with hold := true }) := by
  simp only [holdCommand, onSlot_owns owns, State.attach_slot, state]

/-- UNHOLD clears the flag, then goes by what waits: slot 0's answerback, or the chain of the slot (R21). -/
theorem unholdCommand_clears (owns : s.owns p b i) (state : (s.slot i).holdRefusal = none) :
    unholdCommand p b (s.attach p) = answer .ok
      (if i = 0 then ((s.attach p).setSlot i { s.slot i with hold := false }).unholdAnswerback
        else ((s.attach p).setSlot i { s.slot i with hold := false }).tellPath (s.slot i)) := by
  simp only [unholdCommand, onSlot_owns owns, State.attach_slot, state]

end Hold

section Unhold

variable {s : State} {h : SlotId}

theorem State.unholdAnswerback_waits {t : Timer} (waits : s.sched.holdWait = some ⟨.answerback, t⟩) :
    s.unholdAnswerback = { s with
      sched.answerbackPending := false
      sched.turn := .answerback s.answerbackBytes (match s.sched.turn with
        | .chain ct => some ct
        | _ => none)
      sched.holdWait := none }.settleTurn := by
  simp only [State.unholdAnswerback, waits]
  rfl

theorem State.unholdAnswerback_still (waits : ∀ t, s.sched.holdWait ≠ some ⟨.answerback, t⟩) :
    s.unholdAnswerback = s := by
  unfold State.unholdAnswerback
  split
  · exact absurd ‹_› (waits _)
  · rfl

theorem State.unholdSend_still (waits : ∀ t, s.sched.holdWait ≠ some ⟨.chain h, t⟩) : s.unholdSend h = s := by
  unfold State.unholdSend
  split
  · next w t wait =>
    rw [if_neg]
    rintro rfl
    exact waits t wait
  · rfl

theorem State.unholdSend_starts {t : Timer} {q : QueuedChain} (waits : s.sched.holdWait = some ⟨.chain h, t⟩)
    (queued : (s.sched.sendQueue.find? fun q => q.head = h) = some q) :
    s.unholdSend h = s.settleAfter (s.beginChain q) := by
  simp only [State.unholdSend, waits, if_true, queued]

theorem State.unholdPrint_still (waits : ∀ t, s.arb.holdWait ≠ some ⟨h, t⟩) : s.unholdPrint h = s := by
  unfold State.unholdPrint
  split
  · next w wait =>
    rw [if_neg]
    rintro rfl
    exact waits w.timer wait
  · rfl

theorem State.unholdPrint_starts {t : Timer} (waits : s.arb.holdWait = some ⟨h, t⟩) :
    s.unholdPrint h = { s with arb.holdWait := some ⟨h, none⟩ }.settle := by
  simp only [State.unholdPrint, waits, if_true]

/-- A chain with another member held waits on (R21). -/
theorem State.tellPath_held {x : Slot} (head : x.chainHead = some h) (held : s.chainHeld h = true) :
    s.tellPath x = s := by
  simp only [State.tellPath, head, held, if_true]

theorem State.tellPath_free {x : Slot} (head : x.chainHead = some h) (unheld : s.chainHeld h = false) :
    s.tellPath x = if x.kind = some .send then s.unholdSend h else s.unholdPrint h := by
  simp [State.tellPath, head, unheld]

end Unhold

/-- Settles O18: refusals by the slot's state; then slot 0's answerback, or the path of the slot's chain. -/
theorem holdAndUnhold : Obligations.HoldAndUnhold := by
  intro s p b i serves owns x cleared
  refine ⟨fun state => ?_, fun state => ?_, fun state => ?_, fun zero state => ⟨fun waits => ?_, fun t waits => ?_⟩,
    fun general state h head => ⟨fun held => ?_, fun unheld send => ⟨fun waits => ?_, fun t q waits queued => ?_⟩,
      fun unheld print => ⟨fun waits => ?_, fun t waits => ?_⟩⟩⟩
  · exact (holdCommand_refuses owns (Slot.holdRefusal_busy state)).imp (State.servePort_refused serves)
      (State.servePort_refused serves)
  · exact (holdCommand_refuses owns (Slot.holdRefusal_wrongState state)).imp (State.servePort_refused serves)
      (State.servePort_refused serves)
  · exact State.servePort_next serves (holdCommand_holds owns (Slot.holdRefusal_eq_none (state.imp And.left And.right)))
  · have run := unholdCommand_clears owns (Slot.holdRefusal_eq_none (.inr state))
    rw [if_pos zero, State.unholdAnswerback_still (s := cleared) waits] at run
    exact State.servePort_next serves run
  · have run := unholdCommand_clears owns (Slot.holdRefusal_eq_none (.inr state))
    rw [if_pos zero, State.unholdAnswerback_waits (s := cleared) waits] at run
    exact State.servePort_next serves run
  all_goals
    have run := unholdCommand_clears owns (Slot.holdRefusal_eq_none (.inl state))
    rw [if_neg general] at run
  · rw [State.tellPath_held head held] at run
    exact State.servePort_next serves run
  · rw [State.tellPath_free head unheld, if_pos send, State.unholdSend_still (s := cleared) waits] at run
    exact State.servePort_next serves run
  · rw [State.tellPath_free head unheld, if_pos send, State.unholdSend_starts (s := cleared) waits queued] at run
    exact State.servePort_next serves run
  · rw [State.tellPath_free head unheld, if_neg (by rw [print]; decide),
      State.unholdPrint_still (s := cleared) waits] at run
    exact State.servePort_next serves run
  · rw [State.tellPath_free head unheld, if_neg (by rw [print]; decide),
      State.unholdPrint_starts (s := cleared) waits] at run
    exact State.servePort_next serves run

/-! ## POST and REPOST (R16, R18) -/

/-- The members of a chain as POST and REPOST enter them: QUEUED under the head. -/
def State.enteredSlots (s : State) (i : SlotId) (l : List SlotId) : Vector Slot 24 :=
  Vector.ofFn fun j : SlotId =>
    if j ∈ l then { s.slot j with state := .queued, chainHead := some i, attempts := 0, hold := false, outcome := none }
    else s.slot j

theorem State.enteredSlots_slot (s : State) (i j : SlotId) (l : List SlotId) :
    (s.enteredSlots i l)[j] = if j ∈ l then
      { s.slot j with state := .queued, chainHead := some i, attempts := 0, hold := false, outcome := none }
      else s.slot j := by
  simp [State.enteredSlots]

/-- The slots of a chain entered in its queue. -/
theorem State.mapSlots_entered {s : State} {i : SlotId} {l : List SlotId} (members : s.members i = l) :
    (s.mapSlots fun j x => if (s.members i).contains j then
      { x with state := .queued, chainHead := some i, attempts := 0, hold := false, outcome := none } else x)
      = { s with slots := s.enteredSlots i l } := by
  rw [members]
  simp only [State.mapSlots, State.enteredSlots, List.contains_iff_mem]
  rfl

section Enter

variable {s : State} {p : Port} {i : SlotId} {l : List SlotId}

theorem State.enterQueued_send (members : s.members i = l) (send : (s.slot i).kind = some .send) :
    s.enterQueued i = { s with
      slots := s.enteredSlots i l, sched.issued := s.sched.issued + 1,
      sched.sendQueue := s.sched.sendQueue ++ [⟨i, s.sched.issued + 1⟩] } := by
  simp only [State.enterQueued, State.mapSlots_entered members, send, if_true]
  rfl

/-- A print chain is entered for its owner, with the head's priority. -/
theorem State.enterQueued_print (members : s.members i = l) (print : (s.slot i).kind = some .print)
    (owner : (s.slot i).owner = some p) :
    s.enterQueued i = { s with
      slots := s.enteredSlots i l, arb.issued := s.arb.issued + 1,
      arb.queue := s.arb.queue ++ [⟨.print, i, p, (s.slot i).priority, s.arb.issued + 1⟩] } := by
  have entered : ∀ t : State, t = { s with slots := s.enteredSlots i l } →
      (t.slot i).owner = some p ∧ (t.slot i).priority = (s.slot i).priority := by
    rintro t rfl
    have slot : ({ s with slots := s.enteredSlots i l } : State).slot i = _ := s.enteredSlots_slot i i l
    rw [slot]
    split
    · exact ⟨owner, rfl⟩
    · exact ⟨owner, rfl⟩
  simp only [State.enterQueued, State.mapSlots_entered members, print]
  simp only [State.enterPrintQueue, (entered _ rfl).1, (entered _ rfl).2]
  rfl

end Enter

/-- The test REPOST makes of the slot it names. -/
theorem State.repostRefused_iff (s : State) (i : SlotId) :
    (!(s.slot i).isChainKind || !(s.slot i).state.isEnd || decide ((s.slot i).chainHead ≠ some i)) = true ↔
      ¬s.endedChain i := by
  rw [← s.endedChain_iff]
  cases (s.slot i).isChainKind <;> cases (s.slot i).state.isEnd <;> simp

section Post

variable {s : State} {p : Port} {b : Byte} {i : SlotId}

theorem postCommand_wrongState (owns : s.owns p b i) (single : ¬(s.slot i).chains) :
    postCommand p b (s.attach p) = refuse .wrongState (s.attach p) := by
  rw [postCommand, onSlot_owns owns]
  have single : (s.slot i).isChainKind = false := by rwa [Bool.eq_false_iff, ne_eq, Slot.isChainKind_iff]
  exact if_pos (show (!(s.slot i).isChainKind) = true by rw [single]; rfl)

/-- POST of a slot of a chain kind goes by the walk: a chain of HELD slots of its kind and owner, or none (R16). -/
theorem postCommand_chain (owns : s.owns p b i) (chains : (s.slot i).chains) :
    postCommand p b (s.attach p) =
      if s.chainFound i fun y => y.state = .held && y.kind = (s.slot i).kind && y.owner = (s.slot i).owner then
        answer .ok ((s.attach p).settleAfter ((s.attach p).enterQueued i))
      else refuse .badChain (s.attach p) := by
  rw [postCommand, onSlot_owns owns]
  exact if_neg (show ¬(!(s.slot i).isChainKind) = true by rw [(Slot.isChainKind_iff _).2 chains]; decide)

theorem repostCommand_wrongState (owns : s.owns p b i) (not_ended : ¬s.endedChain i) :
    repostCommand p b (s.attach p) = refuse .wrongState (s.attach p) := by
  rw [repostCommand, onSlot_owns owns]
  exact if_pos ((s.repostRefused_iff i).2 not_ended)

/-- REPOST of an ended chain's head goes by the walk: a chain of that head in its state, or none (R18). -/
theorem repostCommand_chain (owns : s.owns p b i) (ended : s.endedChain i) :
    repostCommand p b (s.attach p) =
      if s.chainFound i fun y => y.state = (s.slot i).state && y.chainHead = some i && y.kind = (s.slot i).kind
          && y.owner = (s.slot i).owner then
        answer .ok ((s.attach p).settleAfter ((s.attach p).enterQueued i))
      else refuse .badChain (s.attach p) := by
  rw [repostCommand, onSlot_owns owns]
  exact if_neg fun refused => (s.repostRefused_iff i).1 refused ended

end Post

/-- Settles O19: both commands go by the walk, which finds a chain exactly where one is; the chain is then entered in
the queue of its kind. -/
theorem postEntersTheQueue : Obligations.PostEntersTheQueue := by
  intro s p b i serves owns x entered queued postable repostable
  have owner : (s.slot i).owner = some p := owns.2.2
  have enters : ∀ (test : Slot → Prop) (l : List SlotId), x.chains → s.chainFrom i test l →
      (s.attach p).enterQueued i = queued l := by
    intro test l chains chain
    have members : s.members i = l := State.members_of_chainFrom chain
    have members : (s.attach p).members i = l := members
    rcases chains with send | print
    · exact (State.enterQueued_send members send).trans (if_pos send).symm
    · exact (State.enterQueued_print members print owner).trans
        (if_neg fun send : x.kind = some .send => by rw [print] at send; cases send).symm
  have found : ∀ (test : Slot → Bool) (test' : Slot → Prop), (∀ y, test y = true ↔ test' y) →
      (s.chainFound i test = true ↔ ∃ l, s.chainFrom i test' l) := by
    intro test test' same
    rw [State.chainFound_iff]
    exact exists_congr fun l => State.chainFrom_congr same
  have post := found (fun y => y.state = .held && y.kind = x.kind && y.owner = x.owner) postable (by
    simp [postable, x, owner, and_assoc])
  have repost := found (fun y => y.state = x.state && y.chainHead = some i && y.kind = x.kind && y.owner = x.owner)
    repostable (by simp [repostable, x, owner, and_assoc])
  refine ⟨fun single => ?_, fun chains => ⟨fun l chain => ?_, fun none => ?_⟩, fun not_ended => ?_,
    fun chains state head => ⟨fun l chain => ?_, fun none => ?_⟩⟩
  · exact State.servePort_refused serves (postCommand_wrongState owns single)
  · rw [← enters postable l chains chain]
    exact State.servePort_next serves ((postCommand_chain owns chains).trans (if_pos (post.2 ⟨l, chain⟩)))
  · exact State.servePort_refused serves ((postCommand_chain owns chains).trans
      (if_neg fun found => (post.1 found).elim none))
  · exact State.servePort_refused serves (repostCommand_wrongState owns not_ended)
  · rw [← enters repostable l chains chain]
    exact State.servePort_next serves
      ((repostCommand_chain owns ⟨chains, state, head⟩).trans (if_pos (repost.2 ⟨l, chain⟩)))
  · exact State.servePort_refused serves ((repostCommand_chain owns ⟨chains, state, head⟩).trans
      (if_neg fun found => (repost.1 found).elim none))

/-! ## Requests on a chain (R24, R25) -/

/-- A request taken without an outcome is the change of the members alone. -/
theorem State.chainRequest_none {s : State} {h : SlotId} {k : Kind} {e : List SlotState}
    (found : s.requestFinds h k e = true) (n : SlotState) :
    s.chainRequest h k e n none = s.mapChain h fun x => { x with state := n, outcome := none, hold := false } := by
  simp only [State.chainRequest, found, if_true]

/-- A request taken with an outcome also raises ENDED. -/
theorem State.chainRequest_some {s : State} {h : SlotId} {k : Kind} {e : List SlotState}
    (found : s.requestFinds h k e = true) (n : SlotState) (r : EndOutcome) :
    s.chainRequest h k e n (some r) =
      (s.mapChain h fun x => { x with state := n, outcome := some r, hold := false }).raiseEnded h r := by
  simp only [State.chainRequest, found, if_true]

/-- The ENDED event goes to the owner of the head, whom the request leaves in place. -/
theorem State.raiseEnded_mapChain_events {s : State} {h : SlotId} {p : Port} (owner : (s.slot h).owner = some p)
    (n : SlotState) (r : EndOutcome) :
    ((s.mapChain h fun x => { x with state := n, outcome := some r, hold := false }).raiseEnded h r).events =
      (s.raise p (.ended h r)).events := by
  have kept : ((s.mapChain h fun x => { x with state := n, outcome := some r, hold := false }).slot h).owner
      = some p := by
    rw [State.mapChain_slot, ← owner]
    split <;> rfl
  simp only [State.raiseEnded, kept, State.raise, State.mapChain_events]

/-- Settles O22: the slots by `State.chainRequest_slot`, the events by the outcome. -/
theorem requestsMoveTheWholeChain : Obligations.RequestsMoveTheWholeChain := by
  intro s h k expected new o found t
  refine ⟨fun lost => ?_, fun finds => ?_⟩
  · exact State.chainRequest_discarded (by rwa [Bool.eq_false_iff, ne_eq, State.requestFinds_iff]) new o
  have finds : s.requestFinds h k expected = true := (s.requestFinds_iff h k expected).2 finds
  refine ⟨State.chainRequest_slot finds new o, ?_, ?_⟩
  · rintro rfl
    rw [show t = _ from State.chainRequest_none finds new, State.mapChain_events]
  · rintro r p rfl owner
    rw [show t = _ from State.chainRequest_some finds new r, State.raiseEnded_mapChain_events owner]

/-! ## WITHDRAW (R100, R101, R138, R139) -/

theorem State.withdrawQueuedSend_eq (s : State) (h : SlotId) :
    let t := s.chainRequest h .send [.queued] .aborted (some .withdrawn)
    s.withdrawQueuedSend h = ({ t with
      sched.sendQueue := s.sched.sendQueue.filter fun q => q.head ≠ h
      sched.holdWait := if s.sched.holdWait.map LineHold.target = some (HoldTarget.chain h) then none
        else s.sched.holdWait
      }.clearingDropChain h).testLineMarks := by
  simp only [State.withdrawQueuedSend, State.leaveLine, State.chainRequest_sched]
  rcases s.sched.holdWait with _ | ⟨k | _, t⟩
  · rfl
  · by_cases same : k = h <;> simp [same]
  · simp

/-- Testing the print drain marks changes nothing of the arbiter but the marks (R146). -/
theorem State.testPrintMark_arb (s : State) (p : Port) :
    (s.testPrintMark p).arb = { s.arb with marks := (s.testPrintMark p).arb.marks } := by
  unfold State.testPrintMark
  split
  · split <;> rfl
  · rfl

theorem State.testPrintMarks_arb (s : State) :
    s.testPrintMarks.arb = { s.arb with marks := s.testPrintMarks.arb.marks } := by
  have first := s.testPrintMark_arb .a
  have second := (s.testPrintMark .a).testPrintMark_arb .b
  rw [first] at second
  exact second

/-- A job dropped leaves the arbiter's other fields alone (R130). -/
theorem State.dropJob_arb (s : State) (k : JobKind) (i : SlotId) :
    (s.dropJob k i).arb = { s.arb with
      queue := s.arb.queue.filter fun j => !(j.kind = k && j.slot = i), marks := (s.dropJob k i).arb.marks } :=
  State.testPrintMarks_arb _

theorem State.withdrawQueuedPrint_eq (s : State) (h : SlotId) :
    let t := (s.chainRequest h .print [.queued] .aborted (some .withdrawn)).dropJob .print h
    s.withdrawQueuedPrint h = { t with
      arb.holdWait := if s.arb.holdWait.map PrintHold.head = some h then none else s.arb.holdWait } := by
  have hold : ((s.chainRequest h .print [.queued] .aborted (some .withdrawn)).dropJob .print h).arb.holdWait
      = s.arb.holdWait := by rw [State.dropJob_arb, State.chainRequest_arb]
  simp only [State.withdrawQueuedPrint, hold]
  rcases s.arb.holdWait with _ | k
  · rfl
  · by_cases same : k.head = h <;> simp [same]

theorem State.withdrawActiveSend_between {s : State} (free : s.replyWait = none) (h : SlotId) :
    s.withdrawActiveSend h = { s with sched.withdrawalPending := true } := by
  simp only [State.withdrawActiveSend, free]

theorem State.withdrawActiveSend_waiting {s : State} {ct : ChainTurn} (waits : s.replyWait = some ct) :
    s.withdrawActiveSend ct.head = s.withdrawActive ct.head := by
  simp only [State.withdrawActiveSend, waits, if_true]

theorem State.withdrawCopy_queued {s : State} {h : SlotId} (queued : s.jobQueued .copy h = true) :
    s.withdrawCopy h = (s.chainRequest h .send [.copying] .done (some .copyCut)).dropJob .copy h := by
  rw [State.withdrawCopy, if_pos queued]

theorem State.withdrawCopy_printing {s : State} {h : SlotId} (printing : s.jobQueued .copy h = false) :
    s.withdrawCopy h = { s with arb.withdrawalPending := true } := by
  rw [State.withdrawCopy, if_neg (by simp [printing])]

section Withdraw

variable {s : State} {p : Port} {b : Byte} {i : SlotId}

theorem withdrawCommand_single (owns : s.owns p b i) (single : ¬(s.slot i).chains) :
    withdrawCommand p b (s.attach p) = refuse .wrongState (s.attach p) := by
  have single : (s.slot i).isChainKind = false := by rwa [Bool.eq_false_iff, ne_eq, Slot.isChainKind_iff]
  simp [withdrawCommand, onSlot_owns owns, single]

theorem withdrawCommand_held (owns : s.owns p b i) (chains : (s.slot i).chains) (held : (s.slot i).state = .held) :
    withdrawCommand p b (s.attach p) = refuse .notPosted (s.attach p) := by
  simp [withdrawCommand, onSlot_owns owns, (Slot.isChainKind_iff _).2 chains, held]

theorem withdrawCommand_member (owns : s.owns p b i) (chains : (s.slot i).chains) (posted : (s.slot i).state ≠ .held)
    (member : (s.slot i).chainHead ≠ some i) :
    withdrawCommand p b (s.attach p) = refuse .wrongState (s.attach p) := by
  simp [withdrawCommand, onSlot_owns owns, (Slot.isChainKind_iff _).2 chains, posted, member]

/-! The head of a chain, by its state and kind. -/

theorem withdrawCommand_ended (owns : s.owns p b i) (chains : (s.slot i).chains) (head : (s.slot i).chainHead = some i)
    (ended : (s.slot i).state ∈ [SlotState.done, .aborted, .failed]) :
    withdrawCommand p b (s.attach p) = refuse .notPosted (s.attach p) := by
  simp only [List.mem_cons, List.not_mem_nil, or_false] at ended
  rcases ended with h | h | h <;>
    simp [withdrawCommand, onSlot_owns owns, (Slot.isChainKind_iff _).2 chains, head, h]

theorem withdrawCommand_queuedSend (owns : s.owns p b i) (head : (s.slot i).chainHead = some i)
    (send : (s.slot i).kind = some .send) (queued : (s.slot i).state = .queued) :
    withdrawCommand p b (s.attach p) =
      answer .ok ((s.attach p).settleAfter ((s.attach p).withdrawQueuedSend i)) := by
  simp [withdrawCommand, onSlot_owns owns, Slot.isChainKind, send, head, queued]

theorem withdrawCommand_activeSend (owns : s.owns p b i) (head : (s.slot i).chainHead = some i)
    (send : (s.slot i).kind = some .send) (active : (s.slot i).state = .active) :
    withdrawCommand p b (s.attach p) =
      answer .ok ((s.attach p).settleAfter ((s.attach p).withdrawActiveSend i)) := by
  simp [withdrawCommand, onSlot_owns owns, Slot.isChainKind, send, head, active]

theorem withdrawCommand_copying (owns : s.owns p b i) (head : (s.slot i).chainHead = some i)
    (chains : (s.slot i).chains) (copying : (s.slot i).state = .copying) :
    withdrawCommand p b (s.attach p) = answer .ok ((s.attach p).withdrawCopy i) := by
  simp [withdrawCommand, onSlot_owns owns, (Slot.isChainKind_iff _).2 chains, head, copying]

theorem withdrawCommand_queuedPrint (owns : s.owns p b i) (head : (s.slot i).chainHead = some i)
    (print : (s.slot i).kind = some .print) (queued : (s.slot i).state = .queued) :
    withdrawCommand p b (s.attach p) = answer .ok ((s.attach p).withdrawQueuedPrint i).settle := by
  simp [withdrawCommand, onSlot_owns owns, Slot.isChainKind, print, head, queued]

theorem withdrawCommand_activePrint (owns : s.owns p b i) (head : (s.slot i).chainHead = some i)
    (print : (s.slot i).kind = some .print) (active : (s.slot i).state = .active) :
    withdrawCommand p b (s.attach p) = answer .ok { s.attach p with arb.withdrawalPending := true } := by
  simp [withdrawCommand, onSlot_owns owns, Slot.isChainKind, print, head, active]

end Withdraw

/-- Settles O21: the refusals in the order of the tests, then the head's state and kind. -/
theorem withdrawByState : Obligations.WithdrawByState := by
  intro s p b i serves owns x s1 result refused
  refine ⟨fun single => ?_, fun chains held => ?_, fun chains posted member => ?_, fun chains head =>
    ⟨fun ended => ?_, fun send => ⟨fun queued => ?_, fun active free => ?_, fun active ct waits same => ?_,
      fun copying job => ?_, fun copying job => ?_⟩, fun print => ⟨fun queued => ?_, fun active => ?_⟩⟩⟩
  · exact State.servePort_refused serves (withdrawCommand_single owns single)
  · exact State.servePort_refused serves (withdrawCommand_held owns chains held)
  · exact State.servePort_refused serves (withdrawCommand_member owns chains posted member)
  · exact State.servePort_refused serves (withdrawCommand_ended owns chains head ended)
  · have run := withdrawCommand_queuedSend owns head send queued
    rw [State.withdrawQueuedSend_eq] at run
    exact State.servePort_next serves run
  · have run := withdrawCommand_activeSend owns head send active
    rw [State.withdrawActiveSend_between (s := s.attach p) free] at run
    exact State.servePort_next serves run
  · have run := withdrawCommand_activeSend owns head send active
    rw [← same, State.withdrawActiveSend_waiting (s := s.attach p) waits] at run
    simp only [result, ← same]
    exact State.servePort_next serves run
  · have run := withdrawCommand_copying owns head chains copying
    rw [State.withdrawCopy_queued (s := s.attach p) job] at run
    exact State.servePort_next serves run
  · have run := withdrawCommand_copying owns head chains copying
    rw [State.withdrawCopy_printing (s := s.attach p) job] at run
    exact State.servePort_next serves run
  · have run := withdrawCommand_queuedPrint owns head print queued
    rw [State.withdrawQueuedPrint_eq] at run
    exact State.servePort_next serves run
  · exact State.servePort_next serves (withdrawCommand_activePrint owns head print active)


end Sys2Proof.Machine
end

section
/-! PROOF. What raised events leave at a unit, when the drain marks complete (sections 5.10 and 7.8), and the connection
(chapter 3): CONNECT, HANG UP, LINE RESET, the entry to IDLE and the timers of the connection and of the carrier. -/

namespace Sys2Proof.Machine

open Sys2Proof

/-! ## Events raised in a row (R174, R175) -/

/-- The events of a list raised at a unit, in order. -/
def EventUnit.raiseAll (u : EventUnit) (l : List EventDetail) : EventUnit := l.foldl EventUnit.raise u

@[simp] theorem EventUnit.raiseAll_nil (u : EventUnit) : u.raiseAll [] = u := rfl

@[simp] theorem EventUnit.raiseAll_cons (u : EventUnit) (d : EventDetail) (l : List EventDetail) :
    u.raiseAll (d :: l) = (u.raise d).raiseAll l := rfl

@[simp] theorem EventUnit.raiseAll_append (u : EventUnit) (l m : List EventDetail) :
    u.raiseAll (l ++ m) = (u.raiseAll l).raiseAll m := List.foldl_append

/-- An event changes its own source alone. -/
theorem EventUnit.raise_sources (u : EventUnit) (d : EventDetail) (n : Fin 8) :
    (u.raise d).sources[n] =
      if d.source = n then some ⟨d, min 255 (u.occurrences d.source + 1)⟩ else u.sources[n] := by
  simp only [EventUnit.raise, Fin.getElem_fin, Vector.getElem_set, Fin.ext_iff]

theorem EventUnit.raise_sources_other {u : EventUnit} {d : EventDetail} {n : Fin 8} (other : d.source ≠ n) :
    (u.raise d).sources[n] = u.sources[n] := (u.raise_sources d n).trans (if_neg other)

theorem EventUnit.occurrences_congr {u v : EventUnit} {n : Fin 8} (same : u.sources[n] = v.sources[n]) :
    u.occurrences n = v.occurrences n := by
  simp only [EventUnit.occurrences, same]

/-- Events of other sources leave a source alone. -/
theorem EventUnit.raiseAll_sources_other {u : EventUnit} {l : List EventDetail} {n : Fin 8}
    (other : ∀ d ∈ l, d.source ≠ n) : (u.raiseAll l).sources[n] = u.sources[n] := by
  induction l generalizing u with
  | nil => rfl
  | cons d l ih =>
    rw [EventUnit.raiseAll_cons, ih fun e he => other e (List.mem_cons_of_mem _ he), EventUnit.raise_sources,
      if_neg (other d List.mem_cons_self)]

/-- The last event of a source leaves its detail, with one occurrence more. -/
theorem EventUnit.raiseAll_sources_last {u : EventUnit} {l : List EventDetail} {d : EventDetail}
    (other : ∀ e ∈ l, e.source ≠ d.source) :
    ((u.raiseAll l).raise d).sources[d.source] = some ⟨d, min 255 (u.occurrences d.source + 1)⟩ := by
  rw [EventUnit.raise_sources, if_pos rfl, EventUnit.occurrences_congr (EventUnit.raiseAll_sources_other other)]

/-- Events change nothing of a unit but its sources. -/
theorem EventUnit.raiseAll_sources (u : EventUnit) (l : List EventDetail) :
    u.raiseAll l = { u with sources := (u.raiseAll l).sources } := by
  induction l generalizing u with
  | nil => rfl
  | cons d l ih => rw [EventUnit.raiseAll_cons, ih]; rfl

theorem PerPort.get_set_ne {α : Type} {p q : Port} (h : q ≠ p) (x : PerPort α) (v : α) :
    (x.set q v).get p = x.get p := by
  match p, q, h with
  | .a, .b, _ | .b, .a, _ => rfl
  | .a, .a, h | .b, .b, h => exact absurd rfl h

@[simp] theorem PerPort.set_set {α : Type} (x : PerPort α) (p : Port) (v w : α) :
    (x.set p v).set p w = x.set p w := by
  cases p <;> rfl

@[simp] theorem State.raise_events_get (s : State) (p : Port) (d : EventDetail) :
    (s.raise p d).events.get p = (s.events.get p).raise d := PerPort.get_set _ _ _

theorem State.raise_events_get_ne {p q : Port} (h : q ≠ p) (s : State) (d : EventDetail) :
    (s.raise q d).events.get p = s.events.get p := PerPort.get_set_ne h _ _

@[simp] theorem State.raiseBoth_events_get (s : State) (p : Port) (d : EventDetail) :
    (s.raiseBoth d).events.get p = (s.events.get p).raise d := by
  cases p <;> rfl

/-! ## The line drain marks (R106 to R108) -/

/-- A port's line drain mark is pending, and no unit at or before it remains. -/
def State.lineDone (s : State) (p : Port) : Prop :=
  ∃ n, s.sched.marks.get p = .pending n ∧ ∀ e ∈ s.lineEntries, n < e

section LineMarks

variable {s : State} {p q : Port}

theorem State.testLineMark_done (done : s.lineDone p) :
    s.testLineMark p = { s with sched.marks := s.sched.marks.set p .complete }.raise p (.drained .line) := by
  obtain ⟨n, mark, gone⟩ := done
  simp only [State.testLineMark, mark]
  exact if_pos (by simpa using gone)

theorem State.testLineMark_waits (waits : ¬s.lineDone p) : s.testLineMark p = s := by
  unfold State.testLineMark
  split
  · next n mark => exact if_neg fun gone => waits ⟨n, mark, by simpa using gone⟩
  · rfl

/-- The test of one port's mark leaves the other port's mark, its events and the units that remain. -/
theorem State.testLineMark_other (h : q ≠ p) : (s.testLineMark q).sched.marks.get p = s.sched.marks.get p
    ∧ (s.testLineMark q).events.get p = s.events.get p ∧ (s.testLineMark q).lineEntries = s.lineEntries := by
  by_cases done : s.lineDone q
  · rw [State.testLineMark_done done, State.raise_events_get_ne h]
    exact ⟨PerPort.get_set_ne h _ _, rfl, rfl⟩
  · rw [State.testLineMark_waits done]
    exact ⟨rfl, rfl, rfl⟩

theorem State.testLineMark_lineDone_other (h : q ≠ p) : (s.testLineMark q).lineDone p ↔ s.lineDone p := by
  obtain ⟨mark, -, entries⟩ := State.testLineMark_other (s := s) h
  simp only [State.lineDone, mark, entries]

/-- A mark that completes is complete, with one DRAINED; both ports' marks are tested. -/
theorem State.testLineMarks_done (done : s.lineDone p) : s.testLineMarks.sched.marks.get p = .complete
    ∧ s.testLineMarks.events.get p = (s.events.get p).raise (.drained .line) := by
  have own : ∀ t : State, t.lineDone p → (t.testLineMark p).sched.marks.get p = .complete
      ∧ (t.testLineMark p).events.get p = (t.events.get p).raise (.drained .line) := fun t done => by
    rw [State.testLineMark_done done, State.raise_events_get]
    exact ⟨PerPort.get_set _ _ _, rfl⟩
  cases p with
  | a =>
    obtain ⟨mark, events, -⟩ := State.testLineMark_other (s := s.testLineMark .a) (q := .b) (p := .a) (by decide)
    rw [State.testLineMarks, mark, events]
    exact own s done
  | b =>
    obtain ⟨-, events, -⟩ := State.testLineMark_other (s := s) (q := .a) (p := .b) (by decide)
    have := own (s.testLineMark .a) ((State.testLineMark_lineDone_other (by decide)).2 done)
    rwa [events] at this

theorem State.testLineMarks_waits (waits : ¬s.lineDone p) :
    s.testLineMarks.sched.marks.get p = s.sched.marks.get p ∧ s.testLineMarks.events.get p = s.events.get p := by
  cases p with
  | a =>
    obtain ⟨mark, events, -⟩ := State.testLineMark_other (s := s.testLineMark .a) (q := .b) (p := .a) (by decide)
    rw [State.testLineMarks, mark, events, State.testLineMark_waits waits]
    exact ⟨rfl, rfl⟩
  | b =>
    obtain ⟨mark, events, -⟩ := State.testLineMark_other (s := s) (q := .a) (p := .b) (by decide)
    rw [State.testLineMarks, State.testLineMark_waits (mt (State.testLineMark_lineDone_other (by decide)).1 waits)]
    exact ⟨mark, events⟩

/-- Testing the marks changes nothing of the scheduler but the marks. -/
theorem State.testLineMark_sched (s : State) (p : Port) :
    (s.testLineMark p).sched = { s.sched with marks := (s.testLineMark p).sched.marks } := by
  by_cases done : s.lineDone p
  · rw [State.testLineMark_done done]; rfl
  · rw [State.testLineMark_waits done]

theorem State.testLineMarks_sched (s : State) :
    s.testLineMarks.sched = { s.sched with marks := s.testLineMarks.sched.marks } := by
  have second := (s.testLineMark .a).testLineMark_sched .b
  rw [s.testLineMark_sched .a] at second
  exact second

end LineMarks

/-! ## The print drain marks (R145, R146) -/

/-- A port's print drain mark is pending, and nothing its record counts remains. -/
def State.printDone (s : State) (p : Port) : Prop :=
  ∃ r, s.arb.marks.get p = .pending r ∧ (∀ e ∈ s.printEntries, r.number < e) ∧ r.lds = 0 ∧ r.lcs = 0 ∧ r.feeds = 0
    ∧ r.lineOwed = false

section PrintMarks

variable {s : State} {p q : Port}

theorem State.testPrintMark_done (done : s.printDone p) :
    s.testPrintMark p = { s with arb.marks := s.arb.marks.set p .complete }.raise p (.drained .print) := by
  obtain ⟨r, mark, gone⟩ := done
  simp only [State.testPrintMark, mark]
  exact if_pos (by simpa [and_assoc] using gone)

theorem State.testPrintMark_waits (waits : ¬s.printDone p) : s.testPrintMark p = s := by
  unfold State.testPrintMark
  split
  · next r mark => exact if_neg fun gone => waits ⟨r, mark, by simpa [and_assoc] using gone⟩
  · rfl

theorem State.testPrintMark_other (h : q ≠ p) : (s.testPrintMark q).arb.marks.get p = s.arb.marks.get p
    ∧ (s.testPrintMark q).events.get p = s.events.get p ∧ (s.testPrintMark q).printEntries = s.printEntries := by
  by_cases done : s.printDone q
  · rw [State.testPrintMark_done done, State.raise_events_get_ne h]
    exact ⟨PerPort.get_set_ne h _ _, rfl, rfl⟩
  · rw [State.testPrintMark_waits done]
    exact ⟨rfl, rfl, rfl⟩

theorem State.testPrintMark_printDone_other (h : q ≠ p) : (s.testPrintMark q).printDone p ↔ s.printDone p := by
  obtain ⟨mark, -, entries⟩ := State.testPrintMark_other (s := s) h
  simp only [State.printDone, mark, entries]

theorem State.testPrintMarks_done (done : s.printDone p) : s.testPrintMarks.arb.marks.get p = .complete
    ∧ s.testPrintMarks.events.get p = (s.events.get p).raise (.drained .print) := by
  have own : ∀ t : State, t.printDone p → (t.testPrintMark p).arb.marks.get p = .complete
      ∧ (t.testPrintMark p).events.get p = (t.events.get p).raise (.drained .print) := fun t done => by
    rw [State.testPrintMark_done done, State.raise_events_get]
    exact ⟨PerPort.get_set _ _ _, rfl⟩
  cases p with
  | a =>
    obtain ⟨mark, events, -⟩ := State.testPrintMark_other (s := s.testPrintMark .a) (q := .b) (p := .a) (by decide)
    rw [State.testPrintMarks, mark, events]
    exact own s done
  | b =>
    obtain ⟨-, events, -⟩ := State.testPrintMark_other (s := s) (q := .a) (p := .b) (by decide)
    have := own (s.testPrintMark .a) ((State.testPrintMark_printDone_other (by decide)).2 done)
    rwa [events] at this

theorem State.testPrintMarks_waits (waits : ¬s.printDone p) :
    s.testPrintMarks.arb.marks.get p = s.arb.marks.get p ∧ s.testPrintMarks.events.get p = s.events.get p := by
  cases p with
  | a =>
    obtain ⟨mark, events, -⟩ := State.testPrintMark_other (s := s.testPrintMark .a) (q := .b) (p := .a) (by decide)
    rw [State.testPrintMarks, mark, events, State.testPrintMark_waits waits]
    exact ⟨rfl, rfl⟩
  | b =>
    obtain ⟨mark, events, -⟩ := State.testPrintMark_other (s := s) (q := .a) (p := .b) (by decide)
    rw [State.testPrintMarks, State.testPrintMark_waits (mt (State.testPrintMark_printDone_other (by decide)).1 waits)]
    exact ⟨mark, events⟩

end PrintMarks

/-- A mark placed completes at once exactly when no unit at or before it remains. -/
theorem State.placeLineMark_done {s : State} (gone : ∀ e ∈ s.lineEntries, s.sched.issued < e) (p : Port) :
    s.placeLineMark p = { s with sched.marks := s.sched.marks.set p .complete }.raise p (.drained .line) := by
  have done : { s with sched.marks := s.sched.marks.set p (.pending s.sched.issued) }.lineDone p :=
    ⟨_, PerPort.get_set _ _ _, gone⟩
  rw [State.placeLineMark, State.testLineMark_done done]
  simp only [PerPort.set_set]

theorem State.placeLineMark_waits {s : State} (waits : ∃ e ∈ s.lineEntries, e ≤ s.sched.issued) (p : Port) :
    s.placeLineMark p = { s with sched.marks := s.sched.marks.set p (.pending s.sched.issued) } := by
  refine State.testLineMark_waits ?_
  rintro ⟨n, mark, gone⟩
  obtain ⟨e, remains, before⟩ := waits
  obtain rfl : s.sched.issued = n := LineMark.pending.inj ((PerPort.get_set _ _ _).symm.trans mark)
  exact absurd (gone e remains) (Nat.not_lt.2 before)

theorem State.placePrintMark_done {s : State} (gone : (∀ e ∈ s.printEntries, s.arb.issued < e) ∧ s.markRecord.lds = 0
    ∧ s.markRecord.lcs = 0 ∧ s.markRecord.feeds = 0 ∧ s.markRecord.lineOwed = false) (p : Port) :
    s.placePrintMark p = { s with arb.marks := s.arb.marks.set p .complete }.raise p (.drained .print) := by
  have done : { s with arb.marks := s.arb.marks.set p (.pending s.markRecord) }.printDone p :=
    ⟨_, PerPort.get_set _ _ _, gone⟩
  rw [State.placePrintMark, State.testPrintMark_done done]
  simp only [PerPort.set_set]

theorem State.placePrintMark_waits {s : State} (waits : ¬((∀ e ∈ s.printEntries, s.arb.issued < e)
    ∧ s.markRecord.lds = 0 ∧ s.markRecord.lcs = 0 ∧ s.markRecord.feeds = 0 ∧ s.markRecord.lineOwed = false))
    (p : Port) : s.placePrintMark p = { s with arb.marks := s.arb.marks.set p (.pending s.markRecord) } := by
  refine State.testPrintMark_waits ?_
  rintro ⟨r, mark, gone⟩
  obtain rfl : s.markRecord = r := PrintMark.pending.inj ((PerPort.get_set _ _ _).symm.trans mark)
  exact waits gone

theorem pathArg_eq_none {b : Byte} (h : 2 ≤ b.toNat) : pathArg b = none := by
  have zero : b ≠ 0 := fun h' => by rw [h'] at h; exact absurd h (by decide)
  have one : b ≠ 1 := fun h' => by rw [h'] at h; exact absurd h (by decide)
  rw [pathArg, if_neg zero, if_neg one]

/-- The drain byte holds the two marks, two bits each (R109). -/
theorem State.drainByte_marks (s : State) (p : Port) :
    (s.drainByte p).toNat % 4 = lineMarkNumber (s.sched.marks.get p)
      ∧ (s.drainByte p).toNat / 4 = printMarkNumber (s.arb.marks.get p) := by
  have line : lineMarkNumber (s.sched.marks.get p) < 3 := by cases s.sched.marks.get p <;> simp [lineMarkNumber]
  have print : printMarkNumber (s.arb.marks.get p) < 3 := by cases s.arb.marks.get p <;> simp [printMarkNumber]
  rw [State.drainByte, byteOf, BitVec.toNat_ofNat]
  generalize lineMarkNumber (s.sched.marks.get p) = l at line ⊢
  generalize printMarkNumber (s.arb.marks.get p) = m at print ⊢
  omega

/-- Settles O43: a mark is tested as it is placed. -/
theorem drainMarks : Obligations.DrainMarks := by
  intro s p serves s1 record gone
  refine ⟨fun b outside => ?_, fun done => ?_, fun waits => ?_, fun done => ?_, fun waits => ?_,
    s.drainByte p, State.servePort_next serves rfl, s.drainByte_marks p⟩
  · exact State.servePort_refused serves (by simp only [drainMarkCommand, pathArg_eq_none outside])
  · exact State.servePort_next serves (congrArg (answer .ok) (State.placeLineMark_done (s := s1) done p))
  · exact State.servePort_next serves (congrArg (answer .ok) (State.placeLineMark_waits (s := s1) waits p))
  · exact State.servePort_next serves (congrArg (answer .ok) (State.placePrintMark_done (s := s1) done p))
  · exact State.servePort_next serves (congrArg (answer .ok) (State.placePrintMark_waits (s := s1) waits p))

/-! ## LINE events (R61) -/

/-- The supervisor's reasons that sound the beeper are ONLINE and LOST (R172). -/
theorem State.lineEvent_quiet {s : State} {r : LineReason} (online : r ≠ .online) (lost : r ≠ .lost) :
    s.lineEvent r = { s with sup.reason := r }.raiseBoth (.line s.sup.state r) := by
  simp [State.lineEvent, online, lost]

theorem State.lineEvent_online (s : State) :
    s.lineEvent .online = ({ s with sup.reason := .online }.raiseBoth (.line s.sup.state .online)).beep := rfl

theorem State.lineEvent_sup (s : State) (r : LineReason) : (s.lineEvent r).sup = { s.sup with reason := r } := by
  unfold State.lineEvent
  dsimp only
  split
  · rw [State.beep_sup]; rfl
  · rfl

theorem State.lineEvent_events_get (s : State) (r : LineReason) (p : Port) :
    (s.lineEvent r).events.get p = (s.events.get p).raise (.line s.sup.state r) := by
  unfold State.lineEvent
  dsimp only
  split
  · rw [State.beep_events, State.raiseBoth_events_get]
  · rw [State.raiseBoth_events_get]

/-! ## CONNECT (R49) -/

/-- A carrier-on, field by field (R29, assumption 42). -/
theorem Modem.carrierOn_eq (m : Modem) :
    let starts : Prop := m.modulator = .off ∨ m.offDue = true
    m.carrierOn = { m with
      modulator := if starts then .markIdle else m.modulator
      offDue := if starts then false else m.offDue
      phase := if starts then 0 else m.phase
      sampleClock := if starts then 0 else m.sampleClock } := by
  intro starts
  by_cases h : m.modulator = .off ∨ m.offDue = true
  · simp only [Modem.carrierOn_starts h, starts, if_pos h]
  · simp only [Modem.carrierOn_already h, starts, if_neg h]

theorem modeArg_eq_none {b : Byte} (h : 3 ≤ b.toNat) : modeArg b = none := by
  have named (n : Nat) (hn : n < 3) : b ≠ BitVec.ofNat 8 n := by
    rintro rfl
    rw [BitVec.toNat_ofNat] at h
    omega
  simp [modeArg, named 0, named 1, named 2]

theorem modeArg_isSome {b : Byte} (h : b.toNat ≤ 2) : ∃ m, modeArg b = some m := by
  have : b = 0 ∨ b = 1 ∨ b = 2 := by bv_omega
  rcases this with rfl | rfl | rfl
  · exact ⟨_, rfl⟩
  · exact ⟨_, rfl⟩
  · exact ⟨_, rfl⟩

theorem connectCommand_busy {s : State} {b : Byte} {m : Mode} (mode : modeArg b = some m) (busy : s.sup.state ≠ .idle) :
    connectCommand b s = refuse .lineBusy s := by
  simp only [connectCommand, mode, if_neg busy]

theorem connectCommand_begins {s : State} {b : Byte} {m : Mode} (mode : modeArg b = some m)
    (idle : s.sup.state = .idle) : connectCommand b s = answer .ok (s.beginAttempt m) := by
  simp only [connectCommand, mode, if_pos idle]

/-- An attempt begun, field by field: the carrier is on at once in ANSWER and LOOP. -/
theorem State.beginAttempt_eq (s : State) (m : Mode) :
    let starts : Prop := m ≠ Mode.originate ∧ (s.modem.modulator = Modulator.off ∨ s.modem.offDue = true)
    s.beginAttempt m = { s with
      modem.mode := m
      modem.modulator := if starts then .markIdle else s.modem.modulator
      modem.offDue := if starts then false else s.modem.offDue
      modem.phase := if starts then 0 else s.modem.phase
      modem.sampleClock := if starts then 0 else s.modem.sampleClock
      sup.state := attemptState m
      sup.connectTimer := some (s.settings.connectTimeout * 1000000)
      sup.reason := attemptReason m }.raiseBoth (.line (attemptState m) (attemptReason m)) := by
  intro starts
  have quiet : attemptReason m ≠ .online ∧ attemptReason m ≠ .lost := by cases m <;> decide
  rw [State.beginAttempt, State.lineEvent_quiet quiet.1 quiet.2]
  by_cases originate : m = .originate
  · simp [starts, originate, seconds]
  · simp [starts, originate, seconds, Modem.carrierOn_eq]

/-- Settles O23. -/
theorem connectStartsAnAttempt : Obligations.ConnectStartsAnAttempt := by
  refine fun s p b serves => ⟨fun outside => ?_, fun range busy => ?_, fun idle m st r mode => ?_⟩
  · exact State.servePort_refused serves (by simp only [connectCommand, modeArg_eq_none outside])
  · obtain ⟨m, mode⟩ := modeArg_isSome range
    exact State.servePort_refused serves (connectCommand_busy mode busy)
  · simp only [List.mem_cons, List.not_mem_nil, or_false, Prod.mk.injEq] at mode
    rcases mode with ⟨rfl, rfl, rfl, rfl⟩ | ⟨rfl, rfl, rfl, rfl⟩ | ⟨rfl, rfl, rfl, rfl⟩
    · exact State.servePort_next serves ((connectCommand_begins (s := s.attach p) rfl idle).trans
        (congrArg (answer .ok) ((s.attach p).beginAttempt_eq .originate)))
    · exact State.servePort_next serves ((connectCommand_begins (s := s.attach p) rfl idle).trans
        (congrArg (answer .ok) ((s.attach p).beginAttempt_eq .answer)))
    · exact State.servePort_next serves ((connectCommand_begins (s := s.attach p) rfl idle).trans
        (congrArg (answer .ok) ((s.attach p).beginAttempt_eq .loop)))

/-! ## HANG UP (R54, R58) -/

section HangUp

variable {s : State} {b : Byte}

theorem hangUpCommand_badArg (outside : 2 ≤ b.toNat) : hangUpCommand b s = refuse .badArg s :=
  if_pos (by omega)

theorem hangUpCommand_idle (range : b.toNat ≤ 1) (idle : s.sup.state = .idle) :
    hangUpCommand b s = refuse .lineIdle s := by
  simp only [hangUpCommand, if_neg (Nat.not_lt.2 range), idle]

/-- The line is dropped at once in an attempt, and by manner 1 in a connection (R58). -/
theorem hangUpCommand_drops (h : b = 1 ∧ s.sup.state ≠ .idle ∨ b = 0
    ∧ (s.sup.state = .calling ∨ s.sup.state = .answering)) :
    hangUpCommand b s = answer .ok s.dropLine := by
  rcases h with ⟨rfl, busy⟩ | ⟨rfl, state | state⟩
  · cases state : s.sup.state
    · exact absurd state busy
    all_goals simp [hangUpCommand, state]
  · simp [hangUpCommand, state]
  · simp [hangUpCommand, state]

theorem hangUpCommand_clearing (clearing : s.sup.state = .clearing) : hangUpCommand 0 s = answer .ok s := by
  simp [hangUpCommand, clearing]

theorem hangUpCommand_online (online : s.sup.state = .online) : hangUpCommand 0 s = answer .ok s.beginClearing := by
  simp [hangUpCommand, online]

end HangUp

/-- What keeps clearing from ending at once: a chain, a character or a turn of the line path, or a modulator that is not
in MARK_IDLE (R54, R56). -/
def State.outstanding (s : State) : Prop :=
  s.sched.sendQueue ≠ [] ∨ s.activeChain ≠ none ∨ s.sched.keyFifo ≠ [] ∨ s.sched.turn ≠ .none
    ∨ s.modem.modulator ≠ .markIdle

/-- The state at the beginning of clearing (R54, R55). -/
def State.clearingBegun (s : State) : State :=
  { s with sup.state := .clearing, sup.clearing := some s.fixedSet, sup.clearingTimer := some 120000000 }

/-- Clearing ends with nothing left in the set, no turn and the modulator in MARK_IDLE (R56). -/
theorem State.clearingDone_iff (s : State) : s.clearingDone = true ↔
    s.sup.state = .clearing ∧ s.clearingEmpty = true ∧ s.sched.turn = .none ∧ s.modem.modulator = .markIdle := by
  simp [State.clearingDone, State.markIdle, and_assoc]

theorem State.clearingBegun_done_iff (s : State) : s.clearingBegun.clearingDone = true ↔ ¬s.outstanding := by
  have chain : (s.activeChain.map (·.head)).toList = [] ↔ s.activeChain = none := by cases s.activeChain <;> simp
  simp only [State.outstanding, not_or, not_not]
  rw [State.clearingDone_iff]
  simp [State.clearingEmpty, State.clearingBegun, State.fixedSet, chain, and_assoc]

theorem State.beginClearing_outstanding {s : State} (h : s.outstanding) : s.beginClearing =
    { s.clearingBegun with sup.reason := .clearing }.raiseBoth (.line .clearing .clearing) := by
  have waits : ¬s.clearingBegun.clearingDone = true := fun done => (s.clearingBegun_done_iff.1 done) h
  refine (if_neg waits).trans (State.lineEvent_quiet (by decide) (by decide))

theorem State.beginClearing_done {s : State} (h : ¬s.outstanding) :
    s.beginClearing = s.clearingBegun.goIdle .cleared :=
  if_pos (s.clearingBegun_done_iff.2 h)

/-- Settles O24. -/
theorem hangUpByState : Obligations.HangUpByState := by
  intro s p b serves s1 clearing outstanding
  refine ⟨fun outside => ?_, fun range idle => ?_, fun drops => ?_, fun state => ?_, fun state left => ?_,
    fun state done => ?_⟩
  · exact State.servePort_refused serves (hangUpCommand_badArg outside)
  · exact State.servePort_refused serves (hangUpCommand_idle (s := s1) range idle)
  · exact State.servePort_next serves (hangUpCommand_drops (s := s1) drops)
  · exact State.servePort_next serves (hangUpCommand_clearing (s := s1) state)
  · exact State.servePort_next serves ((hangUpCommand_online (s := s1) state).trans
      (congrArg (answer .ok) (State.beginClearing_outstanding (s := s1) left)))
  · exact State.servePort_next serves ((hangUpCommand_online (s := s1) state).trans
      (congrArg (answer .ok) (State.beginClearing_done (s := s1) done)))

/-! ## The entry to IDLE (R48) -/

/-- A state as an entry to IDLE leaves it, before the line drain marks are tested. -/
def State.lineCleared (s : State) : State :=
  { s with
    modem := s.modem.carrierOff.forceAbsent
    sup.state := .idle
    sup.connectTimer := none
    sup.clearingTimer := none
    sup.clearing := none
    sched.turn := .none
    sched.holdWait := none
    sched.replyTimer := none
    sched.withdrawalPending := false
    sched.answerbackPending := false
    sched.breakRequest := .none
    sched.remoteFlow := .xon
    sched.flowTimer := none
    sched.handed := none
    parser.state := .text
    parser.replies := []
    parser.pendingFlow := none
    parser.counters.discarded :=
      if s.parser.state.assembling then bump s.parser.counters.discarded else s.parser.counters.discarded }

theorem State.enterIdle_eq (s : State) : s.enterIdle = s.lineCleared.testLineMarks := rfl

/-- What remains on the line path behind an entry to IDLE: the chains queued and the characters (R106). -/
theorem State.lineCleared_lineEntries (s : State) :
    s.lineCleared.lineEntries = s.sched.sendQueue.map (·.entry) ++ s.sched.keyFifo.map (·.entry) := by
  simp [State.lineEntries, State.lineCleared]

/-- A counter raised by one stays at 65535 (R82). -/
theorem bump_eq_min (n : Nat) : bump n = min 65535 (n + 1) := by
  unfold bump
  split <;> omega

theorem Modem.carrierOff_forceAbsent (m : Modem) : m.carrierOff.forceAbsent = { m with
    offDue := if m.modulator = .off then m.offDue else true
    carrier := .absent, qualifyTimer := none, silenceTimer := none, requalifyTimer := none, fadeTimer := none,
    level := .mark, sampler := ⟨.suspended, 0, [], 0⟩ } := by
  by_cases off : m.modulator = .off
  · simp [off, Modem.forceAbsent, Sampler.suspend]
  · simp [off, Modem.forceAbsent, Sampler.suspend]

theorem State.goIdle_sched (s : State) (r : LineReason) :
    (s.goIdle r).sched = { s.lineCleared.sched with marks := (s.goIdle r).sched.marks } := by
  rw [State.goIdle, State.lineEvent_sched, State.enterIdle_eq]
  exact State.testLineMarks_sched _

/-- A port's line drain mark after an entry to IDLE (R108). -/
theorem State.goIdle_marks (s : State) (r : LineReason) (q : Port) :
    (s.goIdle r).sched.marks.get q = s.enterIdle.sched.marks.get q := by
  rw [State.goIdle, State.lineEvent_sched]

theorem State.enterIdle_marks_pending {s : State} {q : Port} {n : Nat} (mark : s.sched.marks.get q = .pending n) :
    s.enterIdle.sched.marks.get q =
      if ∀ e ∈ s.sched.sendQueue.map (·.entry) ++ s.sched.keyFifo.map (·.entry), n < e then .complete
      else .pending n := by
  have marks : s.lineCleared.sched.marks.get q = .pending n := mark
  rw [State.enterIdle_eq]
  split
  · next gone =>
    exact (State.testLineMarks_done ⟨n, marks, by rwa [State.lineCleared_lineEntries]⟩).1
  · next remains =>
    refine (State.testLineMarks_waits ?_).1.trans marks
    rintro ⟨m, mark', gone⟩
    obtain rfl : n = m := LineMark.pending.inj (marks.symm.trans mark')
    exact remains (by rwa [State.lineCleared_lineEntries] at gone)

theorem State.enterIdle_marks_other {s : State} {q : Port} (mark : ∀ n, s.sched.marks.get q ≠ .pending n) :
    s.enterIdle.sched.marks.get q = s.sched.marks.get q :=
  (State.testLineMarks_waits (s := s.lineCleared) fun ⟨n, pending, _⟩ => mark n pending).1

/-- The events of an entry to IDLE at a port: at most a DRAINED, of source 5 (R108). -/
theorem State.enterIdle_events (s : State) (q : Port) :
    ∃ l, (l = [] ∨ l = [.drained .line]) ∧ s.enterIdle.events.get q = (s.events.get q).raiseAll l := by
  by_cases done : s.lineCleared.lineDone q
  · exact ⟨_, .inr rfl, (State.testLineMarks_done done).2⟩
  · exact ⟨_, .inl rfl, (State.testLineMarks_waits done).2⟩

theorem State.goIdle_events_line (s : State) (r : LineReason) (q : Port) :
    ((s.goIdle r).events.get q).sources[(4 : Fin 8)] =
      some ⟨.line .idle r, min 255 ((s.events.get q).occurrences 4 + 1)⟩ := by
  obtain ⟨l, drained, events⟩ := s.enterIdle_events q
  have idle : s.enterIdle.sup.state = .idle := by simp [State.enterIdle_eq, State.lineCleared]
  rw [State.goIdle, State.lineEvent_events_get, events, idle]
  refine EventUnit.raiseAll_sources_last (d := .line .idle r) fun e he => ?_
  rcases drained with rfl | rfl
  · cases he
  · rw [List.mem_singleton.1 he]
    exact (by decide : (5 : Fin 8) ≠ 4)

/-- Settles O26. -/
theorem entryToIdle : Obligations.EntryToIdle := by
  intro s r t
  have sup : t.sup = { s.lineCleared.sup with reason := r } := by
    simp only [t, State.goIdle, State.lineEvent_sup, State.enterIdle_eq, State.testLineMarks_sup]
  have modem : t.modem = s.lineCleared.modem := by
    simp only [t, State.goIdle, State.lineEvent_modem, State.enterIdle_eq, State.testLineMarks_modem]
  have parser : t.parser = s.lineCleared.parser := by
    simp only [t, State.goIdle, State.lineEvent_parser, State.enterIdle_eq, State.testLineMarks_parser]
  refine ⟨by rw [sup]; rfl, by rw [sup], by rw [sup]; rfl, by rw [sup]; rfl, by rw [sup]; rfl, ?_, ?_, ?_, ?_, ?_, ?_,
    s.goIdle_slots r, s.goIdle_kbd r, s.goIdle_arb r, s.goIdle_engine r, s.goIdle_settings r, s.goIdle_pending r⟩
  · rw [modem]
    exact s.modem.carrierOff_forceAbsent
  · exact s.goIdle_sched r
  · rw [parser]
    simp only [State.lineCleared, bump_eq_min]
  · intro q n mark
    exact (s.goIdle_marks r q).trans (State.enterIdle_marks_pending mark)
  · intro q mark
    exact (s.goIdle_marks r q).trans (State.enterIdle_marks_other mark)
  · exact s.goIdle_events_line r

/-! ## The timers of the connection (R52, R53, R57) -/

/-- Settles O27. -/
theorem timersEndTheConnection : Obligations.TimersEndTheConnection := by
  refine ⟨fun s attempt timer => ?_, fun s clearing timer => ?_, fun s fading timer => ?_, fun s o => ⟨fun none => ?_,
    fun ct active => ?_⟩⟩
  · show Host.Outcome.next (if _ then _ else _) = _
    rw [if_pos (by simpa [Option.isSome_iff_ne_none, timer] using attempt)]
  · show Host.Outcome.next (if _ then _ else _) = _
    rw [if_pos (by simp [Option.isSome_iff_ne_none, timer, clearing])]
  · have expires : exec .fadeTimerExpired s = .next s.carrierLost := by
      show Host.Outcome.next (if _ then _ else _) = _
      rw [if_pos (by simp [Option.isSome_iff_ne_none, timer, fading])]
    intro absent
    refine ⟨fun serving => ?_, fun offline unclearing => ?_⟩
    · rw [expires, State.carrierLost, if_pos (by simpa [State.serving] using serving)]
      rfl
    · rw [expires, State.carrierLost, if_neg (by simp [State.serving, offline, unclearing])]
      rfl
  · simp only [State.failActive, none]
  · simp only [State.failActive, active]

/-! ## The carrier's own timers (R36 to R38) -/

/-- The carrier PRESENT brings an attempt ONLINE (R50, R51). -/
theorem State.goOnline_eq (s : State) :
    let starts : Prop := s.modem.modulator = .off ∨ s.modem.offDue = true
    s.goOnline = ({ s with
      modem.modulator := if starts then .markIdle else s.modem.modulator
      modem.offDue := if starts then false else s.modem.offDue
      modem.phase := if starts then 0 else s.modem.phase
      modem.sampleClock := if starts then 0 else s.modem.sampleClock
      sup.state := .online
      sup.connectTimer := none
      sup.reason := .online
      parser.pendingFlow := if s.parser.localFlow = Flow.xoff then some .xoff else s.parser.pendingFlow
      }.raiseBoth (.line .online .online)).beep := by
  intro starts
  rw [State.goOnline, State.lineEvent_online, Modem.carrierOn_eq]

/-- Settles O28. -/
theorem carrierTimers : Obligations.CarrierTimers := by
  intro s present
  refine ⟨fun qualifying timer => ?_, fun carrier timer => ?_, fun fading timer => ?_⟩
  · have expires : exec .qualifyRunExpired s = .next s.carrierQualified := by
      show Host.Outcome.next (if _ then _ else _) = _
      rw [if_pos (by simp [Option.isSome_iff_ne_none, timer, qualifying])]
    refine ⟨fun attempt => ?_, fun calling answering => ?_⟩
    · rw [expires, State.carrierQualified, if_pos (by simpa using attempt), State.goOnline_eq]
      rfl
    · rw [expires, State.carrierQualified, if_neg (by simp [calling, answering])]
      rfl
  · show Host.Outcome.next (if _ then _ else _) = _
    rw [if_pos (by simp [Option.isSome_iff_ne_none, timer, carrier])]
    rfl
  · show Host.Outcome.next (if _ then _ else _) = _
    rw [if_pos (by simp [Option.isSome_iff_ne_none, timer, fading])]
    rfl

/-! ## LINE RESET (R59) -/

/-- The line side after an entry to IDLE, with the modem reset, the local flow on and the key-to-line FIFO empty. -/
def State.sideCleared (s : State) : State :=
  { s.enterIdle with modem := Modem.reset, parser.localFlow := .xon, sched.keyFifo := [] }

theorem State.resetLine_eq (s : State) :
    s.resetLine = ((s.failActive .lineReset).sideCleared.emptyFifo.testLineMarks).lineEvent .reset := rfl

/-- Failing the ACTIVE chain raises nothing but ENDED (R24). -/
theorem State.chainRequest_events (s : State) (h : SlotId) (k : Kind) (e : List SlotState) (n : SlotState)
    (o : Option EndOutcome) (q : Port) : ∃ l, (∀ d ∈ l, d.source = 0) ∧
      (s.chainRequest h k e n o).events.get q = (s.events.get q).raiseAll l := by
  cases found : s.requestFinds h k e with
  | false => exact ⟨[], by simp, by rw [State.chainRequest_discarded found]; rfl⟩
  | true =>
    cases o with
    | none => exact ⟨[], by simp, by rw [State.chainRequest_none found, State.mapChain_events]; rfl⟩
    | some r =>
      rw [State.chainRequest_some found]
      unfold State.raiseEnded
      split
      · exact ⟨[], by simp, by rw [State.mapChain_events]; rfl⟩
      · next p _ =>
        by_cases own : p = q
        · subst own
          exact ⟨[.ended h r], by simp; rfl, by rw [State.raise_events_get, State.mapChain_events]; rfl⟩
        · exact ⟨[], by simp, by rw [State.raise_events_get_ne own, State.mapChain_events]; rfl⟩

theorem State.failActive_events (s : State) (o : EndOutcome) (q : Port) : ∃ l, (∀ d ∈ l, d.source = 0) ∧
    (s.failActive o).events.get q = (s.events.get q).raiseAll l := by
  unfold State.failActive
  split
  · exact ⟨[], by simp, rfl⟩
  · split
    · exact s.chainRequest_events ..
    · exact s.chainRequest_events ..

/-- A mark tested twice, the second time with fewer units left: it completes once, at the test that finds nothing at or
before it, and raises one DRAINED there. -/
theorem State.testLineMarks_twice {s t : State} {q : Port}
    (marks : t.sched.marks.get q = s.testLineMarks.sched.marks.get q)
    (fewer : ∀ e ∈ t.lineEntries, e ∈ s.lineEntries) :
    (∀ n, s.sched.marks.get q = .pending n → (∀ e ∈ t.lineEntries, n < e) →
      t.testLineMarks.sched.marks.get q = .complete
        ∧ ∃ first second, (first = [EventDetail.drained .line] ∧ second = [] ∨ first = [] ∧ second = [.drained .line])
          ∧ s.testLineMarks.events.get q = (s.events.get q).raiseAll first
          ∧ t.testLineMarks.events.get q = (t.events.get q).raiseAll second)
    ∧ ((∀ n, ¬(s.sched.marks.get q = .pending n ∧ ∀ e ∈ t.lineEntries, n < e)) →
      t.testLineMarks.sched.marks.get q = s.sched.marks.get q
        ∧ s.testLineMarks.events.get q = s.events.get q ∧ t.testLineMarks.events.get q = t.events.get q) := by
  by_cases done : s.lineDone q
  · obtain ⟨mark, events⟩ := State.testLineMarks_done done
    obtain ⟨n, pending, gone⟩ := done
    have finished : ¬t.lineDone q := fun ⟨m, pending, _⟩ => by
      rw [marks, mark] at pending
      cases pending
    obtain ⟨kept, quiet⟩ := State.testLineMarks_waits finished
    refine ⟨fun m _ _ => ⟨by rw [kept, marks, mark], _, _, .inl ⟨rfl, rfl⟩, events, quiet⟩, fun never => ?_⟩
    exact absurd ⟨pending, fun e he => gone e (fewer e he)⟩ (never n)
  · obtain ⟨kept, quiet⟩ := State.testLineMarks_waits done
    refine ⟨fun n pending gone => ?_, fun never => ?_⟩
    · obtain ⟨mark, events⟩ := State.testLineMarks_done (s := t) ⟨n, by rw [marks, kept, pending], gone⟩
      exact ⟨mark, _, _, .inr ⟨rfl, rfl⟩, quiet, events⟩
    · have waits : ¬t.lineDone q := fun ⟨n, pending, gone⟩ => never n ⟨by rw [← kept, ← marks, pending], gone⟩
      obtain ⟨kept', quiet'⟩ := State.testLineMarks_waits waits
      exact ⟨by rw [kept', marks, kept], quiet, quiet'⟩

/-- The print drain marks with the receive direct FIFO emptied (R145). -/
theorem State.emptyFifo_marks (s : State) (q : Port) :
    (∀ r, s.arb.marks.get q = .pending r → (∀ e ∈ s.printEntries, r.number < e) → r.lcs = 0 → r.feeds = 0 →
      r.lineOwed = false → s.emptyFifo.arb.marks.get q = .complete
        ∧ s.emptyFifo.events.get q = (s.events.get q).raise (.drained .print))
    ∧ ((∀ r, ¬(s.arb.marks.get q = .pending r ∧ (∀ e ∈ s.printEntries, r.number < e) ∧ r.lcs = 0 ∧ r.feeds = 0
        ∧ r.lineOwed = false)) →
      s.emptyFifo.arb.marks.get q = (s.arb.marks.get q).change (fun r => { r with lds := 0 })
        ∧ s.emptyFifo.events.get q = s.events.get q) := by
  have change : ∀ t : State, t.arb.marks = ⟨s.arb.marks.a.change fun r => { r with lds := 0 },
      s.arb.marks.b.change fun r => { r with lds := 0 }⟩ →
      t.arb.marks.get q = (s.arb.marks.get q).change fun r => { r with lds := 0 } := by
    intro t marks
    rw [marks]
    cases q <;> rfl
  constructor
  · intro r mark gone lcs feeds owed
    refine State.testPrintMarks_done ⟨{ r with lds := 0 }, ?_, gone, rfl, lcs, feeds, owed⟩
    rw [change _ rfl, mark]
    rfl
  · intro never
    refine (State.testPrintMarks_waits ?_).imp_left fun kept => kept.trans (change _ rfl)
    rintro ⟨r, mark, gone, -, lcs, feeds, owed⟩
    rw [change _ rfl] at mark
    cases before : s.arb.marks.get q with
    | pending r' =>
      rw [before] at mark
      obtain rfl : { r' with lds := 0 } = r := PrintMark.pending.inj mark
      exact never r' ⟨before, gone, lcs, feeds, owed⟩
    | none | complete => rw [before] at mark; cases mark

/-- Two states with the same blocks are the same state. -/
theorem State.ext_blocks {s t : State} (slots : s.slots = t.slots) (modem : s.modem = t.modem) (sup : s.sup = t.sup)
    (parser : s.parser = t.parser) (sched : s.sched = t.sched) (kbd : s.kbd = t.kbd) (arb : s.arb = t.arb)
    (engine : s.engine = t.engine) (monitor : s.monitor = t.monitor) (events : s.events = t.events)
    (settings : s.settings = t.settings) (portA : s.portA = t.portA) (lastB : s.lastB = t.lastB)
    (addrHigh : s.addrHigh = t.addrHigh) (power : s.power = t.power) (startupTimer : s.startupTimer = t.startupTimer)
    (startups : s.startups = t.startups) (pending : s.pending = t.pending) : s = t := by
  cases s
  cases t
  exact (State.mk.injEq ..).mpr ⟨slots, modem, sup, parser, sched, kbd, arb, engine, monitor, events, settings, portA,
    lastB, addrHigh, power, startupTimer, startups, pending⟩

theorem State.attach_mapChain (s : State) (p : Port) (h : SlotId) (f : Slot → Slot) :
    (s.attach p).mapChain h f = (s.mapChain h f).attach p := by
  simp only [State.mapChain, State.mapSlots, State.attach]
  rfl

/-- The port's attachment makes no difference to a request, nor a request to it. -/
theorem State.attach_chainRequest (s : State) (p : Port) (h : SlotId) (k : Kind) (e : List SlotState) (n : SlotState)
    (o : Option EndOutcome) : (s.attach p).chainRequest h k e n o = (s.chainRequest h k e n o).attach p := by
  have same : (s.attach p).requestFinds h k e = s.requestFinds h k e := rfl
  cases found : s.requestFinds h k e with
  | false => rw [State.chainRequest_discarded (same.trans found), State.chainRequest_discarded found]
  | true =>
    cases o with
    | none => rw [State.chainRequest_none (same.trans found), State.chainRequest_none found, State.attach_mapChain]
    | some r =>
      rw [State.chainRequest_some (same.trans found), State.chainRequest_some found, State.attach_mapChain]
      have raised : ∀ t : State, (t.attach p).raiseEnded h r = (t.raiseEnded h r).attach p := fun t => by
        unfold State.raiseEnded
        rw [State.attach_slot]
        split <;> rfl
      exact raised _

theorem State.attach_failActive (s : State) (p : Port) (o : EndOutcome) :
    (s.attach p).failActive o = (s.failActive o).attach p := by
  have same : (s.attach p).activeChain = s.activeChain := rfl
  unfold State.failActive
  rw [same]
  split
  · rfl
  · show (if s.sched.withdrawalPending = true then _ else _) = _
    split
    · exact s.attach_chainRequest ..
    · exact s.attach_chainRequest ..

/-- What LINE RESET keeps of the state it finds, and what it returns to its starting condition (R59). -/
theorem State.resetLine_blocks (s : State) :
    s.resetLine = { s with
      slots := (s.failActive .lineReset).slots
      modem := Modem.reset
      sup := ⟨.idle, none, none, none, .reset⟩
      parser := { s.parser with
        state := .text, replies := [], fifo := [], silence := ⟨none, false⟩, localFlow := .xon, pendingFlow := none,
        counters.discarded := if s.parser.state.assembling then min 65535 (s.parser.counters.discarded + 1)
          else s.parser.counters.discarded }
      sched := { s.sched with
        keyFifo := [], turn := .none, holdWait := none, replyTimer := none, withdrawalPending := false,
        answerbackPending := false, breakRequest := .none, remoteFlow := .xon, flowTimer := none, handed := none,
        marks := s.resetLine.sched.marks }
      arb := { s.arb with marks := s.resetLine.arb.marks }
      events := s.resetLine.events } := by
  have sched : s.resetLine.sched = { s.sched with
      keyFifo := [], turn := .none, holdWait := none, replyTimer := none, withdrawalPending := false,
      answerbackPending := false, breakRequest := .none, remoteFlow := .xon, flowTimer := none, handed := none,
      marks := s.resetLine.sched.marks } := by
    rw [State.resetLine_eq, State.lineEvent_sched, State.testLineMarks_sched, State.emptyFifo_sched,
      State.sideCleared, State.enterIdle_eq, State.testLineMarks_sched]
    simp only [State.lineCleared, State.failActive_sched]
  have arb : s.resetLine.arb = { s.arb with marks := s.resetLine.arb.marks } := by
    have emptied := State.testPrintMarks_arb
    rw [State.resetLine_eq, State.lineEvent_arb, State.testLineMarks_arb]
    refine (State.testPrintMarks_arb _).trans ?_
    simp [State.sideCleared, State.emptyFifo, State.changePrintMarks]
  have monitor : s.resetLine.monitor = s.monitor := by
    rw [State.resetLine_eq, State.lineEvent_quiet (by decide) (by decide)]
    simp [State.raiseBoth, State.sideCleared]
  have parser : s.resetLine.parser = { s.parser with
      state := .text, replies := [], fifo := [], silence := ⟨none, false⟩, localFlow := .xon, pendingFlow := none,
      counters.discarded := if s.parser.state.assembling then min 65535 (s.parser.counters.discarded + 1)
        else s.parser.counters.discarded } := by
    simp [State.resetLine_eq, State.emptyFifo, State.sideCleared, State.enterIdle_eq, State.lineCleared, bump_eq_min]
  have sup : s.resetLine.sup = ⟨.idle, none, none, none, .reset⟩ := by
    simp [State.resetLine_eq, State.lineEvent_sup, State.sideCleared, State.enterIdle_eq, State.lineCleared]
  refine State.ext_blocks ?_ ?_ sup parser sched ?_ arb ?_ monitor rfl ?_ ?_ ?_ ?_ ?_ ?_ ?_ ?_ <;>
    simp [State.resetLine_eq, State.sideCleared]

/-- Raising one event: the occurrences of its source go up by one, to 255 at most (R174). -/
theorem EventUnit.raise_occurrences (u : EventUnit) (d : EventDetail) :
    (u.raise d).occurrences d.source = min 255 (u.occurrences d.source + 1) := by
  have := u.raise_sources d d.source
  rw [if_pos rfl] at this
  simp only [EventUnit.occurrences, this]

theorem State.sideCleared_sched (s : State) :
    s.sideCleared.sched = { s.lineCleared.sched with keyFifo := [], marks := s.sideCleared.sched.marks } := by
  rw [State.sideCleared, State.enterIdle_eq, State.testLineMarks_sched]

/-- What remains on the line path behind LINE RESET: the chains queued (R106). -/
theorem State.resetLine_lineEntries (s : State) :
    (s.failActive .lineReset).sideCleared.emptyFifo.lineEntries = s.sched.sendQueue.map (·.entry) := by
  have entries : ∀ t : State, t.sched.turn = .none → t.sched.keyFifo = [] → t.sched.handed = none →
      t.lineEntries = t.sched.sendQueue.map (·.entry) := by
    intro t turn keys handed
    simp [State.lineEntries, turn, keys, handed]
  have sched : (s.failActive .lineReset).sideCleared.emptyFifo.sched = _ :=
    (State.emptyFifo_sched _).trans (State.sideCleared_sched _)
  rw [entries, sched]
  · simp only [State.lineCleared, State.failActive_sched]
  all_goals rw [sched]
  all_goals rfl

/-- A port's line drain mark at LINE RESET, tested with the characters and again without them (R108). -/
theorem State.resetLine_lineMark (s : State) (q : Port) :
    let f := s.failActive .lineReset
    let line (n : Nat) : Prop := s.sched.marks.get q = .pending n ∧ ∀ x ∈ s.sched.sendQueue, n < x.entry
    ∃ first second : List EventDetail,
      f.sideCleared.events.get q = (f.events.get q).raiseAll first
      ∧ f.sideCleared.emptyFifo.testLineMarks.events.get q = (f.sideCleared.emptyFifo.events.get q).raiseAll second
      ∧ (∀ n, line n → s.resetLine.sched.marks.get q = .complete
        ∧ (first = [.drained .line] ∧ second = [] ∨ first = [] ∧ second = [.drained .line]))
      ∧ ((∀ n, ¬line n) → s.resetLine.sched.marks.get q = s.sched.marks.get q ∧ first = [] ∧ second = []) := by
  intro f line
  have sched : s.resetLine.sched = f.sideCleared.emptyFifo.testLineMarks.sched := by
    rw [State.resetLine_eq, State.lineEvent_sched]
  have before : f.lineCleared.sched.marks.get q = s.sched.marks.get q := by
    show f.sched.marks.get q = _
    rw [State.failActive_sched]
  have left : ∀ n, (∀ e ∈ f.sideCleared.emptyFifo.lineEntries, n < e) ↔ ∀ x ∈ s.sched.sendQueue, n < x.entry := by
    simp [f, State.resetLine_lineEntries]
  obtain ⟨completes, waits⟩ := State.testLineMarks_twice (s := f.lineCleared) (t := f.sideCleared.emptyFifo) (q := q)
    (by rw [State.emptyFifo_sched]; rfl) (by
      rw [State.resetLine_lineEntries, State.lineCleared_lineEntries, State.failActive_sched]
      exact fun e he => List.mem_append_left _ he)
  simp only [before, left] at completes waits
  by_cases any : ∃ n, line n
  · obtain ⟨n, pending, gone⟩ := any
    obtain ⟨mark, first, second, once, raised, raised'⟩ := completes n pending gone
    exact ⟨first, second, raised, raised', fun _ _ => ⟨by rw [sched, mark], once⟩,
      fun never => absurd ⟨pending, gone⟩ (never n)⟩
  · have never := not_exists.1 any
    obtain ⟨mark, quiet, quiet'⟩ := waits never
    exact ⟨[], [], quiet, quiet', fun n done => absurd done (never n), fun _ => ⟨by rw [sched, mark], rfl, rfl⟩⟩

/-- A port's print drain mark at LINE RESET (R145). -/
theorem State.resetLine_printMark (s : State) (q : Port) :
    let f := s.failActive .lineReset
    let print (r : MarkRecord) : Prop := s.arb.marks.get q = .pending r ∧ (∀ e ∈ s.printEntries, r.number < e)
      ∧ r.lcs = 0 ∧ r.feeds = 0 ∧ r.lineOwed = false
    ∃ printed : List EventDetail,
      f.sideCleared.emptyFifo.events.get q = (f.sideCleared.events.get q).raiseAll printed
      ∧ (∀ r, print r → s.resetLine.arb.marks.get q = .complete ∧ printed = [.drained .print])
      ∧ ((∀ r, ¬print r) → s.resetLine.arb.marks.get q = (s.arb.marks.get q).change (fun r => { r with lds := 0 })
        ∧ printed = []) := by
  intro f print
  have arb : s.resetLine.arb = f.sideCleared.emptyFifo.arb := by
    rw [State.resetLine_eq, State.lineEvent_arb, State.testLineMarks_arb]
  have before : f.sideCleared.arb = s.arb := by simp [f, State.sideCleared]
  have entries : f.sideCleared.printEntries = s.printEntries := by simp only [State.printEntries, before]
  obtain ⟨completes, waits⟩ := f.sideCleared.emptyFifo_marks q
  rw [before, entries] at completes waits
  by_cases any : ∃ r, print r
  · obtain ⟨r, pending, gone, lcs, feeds, owed⟩ := any
    obtain ⟨mark, raised⟩ := completes r pending gone lcs feeds owed
    exact ⟨[.drained .print], raised, fun _ _ => ⟨by rw [arb, mark], rfl⟩,
      fun never => absurd ⟨pending, gone, lcs, feeds, owed⟩ (never r)⟩
  · have never := not_exists.1 any
    obtain ⟨mark, quiet⟩ := waits never
    exact ⟨[], quiet, fun r done => absurd done (never r), fun _ => ⟨by rw [arb, mark], rfl⟩⟩

/-- What LINE RESET raises at a port: ENDED for the chain it fails, the DRAINED of the marks it completes, and LINE; and
the port's marks after it (R59, R108, R145). -/
theorem State.resetLine_port (s : State) (q : Port) :
    let line (n : Nat) : Prop := s.sched.marks.get q = .pending n ∧ ∀ x ∈ s.sched.sendQueue, n < x.entry
    let print (r : MarkRecord) : Prop := s.arb.marks.get q = .pending r ∧ (∀ e ∈ s.printEntries, r.number < e)
      ∧ r.lcs = 0 ∧ r.feeds = 0 ∧ r.lineOwed = false
    ∃ ended first second printed : List EventDetail,
      (∀ d ∈ ended, d.source = 0)
      ∧ (s.failActive .lineReset).events.get q = (s.events.get q).raiseAll ended
      ∧ s.resetLine.events.get q =
        (((s.events.get q).raiseAll ended).raiseAll (first ++ printed ++ second)).raise (.line .idle .reset)
      ∧ (∀ n, line n → s.resetLine.sched.marks.get q = .complete
        ∧ (first = [.drained .line] ∧ second = [] ∨ first = [] ∧ second = [.drained .line]))
      ∧ ((∀ n, ¬line n) → s.resetLine.sched.marks.get q = s.sched.marks.get q ∧ first = [] ∧ second = [])
      ∧ (∀ r, print r → s.resetLine.arb.marks.get q = .complete ∧ printed = [.drained .print])
      ∧ ((∀ r, ¬print r) → s.resetLine.arb.marks.get q = (s.arb.marks.get q).change (fun r => { r with lds := 0 })
        ∧ printed = []) := by
  intro line print
  obtain ⟨ended, only, failed⟩ := s.failActive_events .lineReset q
  obtain ⟨first, second, raised, raised', complete, kept⟩ := s.resetLine_lineMark q
  obtain ⟨printed, raisedPrint, completePrint, keptPrint⟩ := s.resetLine_printMark q
  refine ⟨ended, first, second, printed, only, failed, ?_, complete, kept, completePrint, keptPrint⟩
  have idle : (s.failActive .lineReset).sideCleared.emptyFifo.testLineMarks.sup.state = .idle := by
    simp [State.sideCleared, State.enterIdle_eq, State.lineCleared]
  rw [State.resetLine_eq, State.lineEvent_events_get, idle, raised', raisedPrint, raised, failed,
    EventUnit.raiseAll_append, EventUnit.raiseAll_append]

section ResetEvents

variable {u : EventUnit} {ended drained : List EventDetail}

/-- A unit after the events of LINE RESET: those of the chain it fails, those of the drain marks, and LINE. -/
def EventUnit.afterReset (u : EventUnit) (ended drained : List EventDetail) : EventUnit :=
  ((u.raiseAll ended).raiseAll drained).raise (.line .idle .reset)

theorem EventUnit.afterReset_other (only : ∀ d ∈ ended, d.source = 0) (drains : ∀ d ∈ drained, d.source = 5)
    {n : Fin 8} (zero : n ≠ 0) (four : n ≠ 4) (five : n ≠ 5) :
    (u.afterReset ended drained).sources[n] = u.sources[n] := by
  rw [EventUnit.afterReset, EventUnit.raise_sources_other (d := .line .idle .reset) four.symm,
    EventUnit.raiseAll_sources_other fun d hd => by rw [drains d hd]; exact five.symm,
    EventUnit.raiseAll_sources_other fun d hd => by rw [only d hd]; exact zero.symm]

theorem EventUnit.afterReset_ended (drains : ∀ d ∈ drained, d.source = 5) :
    (u.afterReset ended drained).sources[(0 : Fin 8)] = (u.raiseAll ended).sources[(0 : Fin 8)] := by
  rw [EventUnit.afterReset, EventUnit.raise_sources_other (d := .line .idle .reset) (n := 0) (by decide),
    EventUnit.raiseAll_sources_other fun d hd => by rw [drains d hd]; decide]

theorem EventUnit.afterReset_line (only : ∀ d ∈ ended, d.source = 0) (drains : ∀ d ∈ drained, d.source = 5) :
    (u.afterReset ended drained).sources[(4 : Fin 8)] = some ⟨.line .idle .reset, min 255 (u.occurrences 4 + 1)⟩ := by
  have line := EventUnit.raiseAll_sources_last (u := u) (l := ended ++ drained) (d := .line .idle .reset) fun d hd => by
    rcases List.mem_append.1 hd with hd | hd
    · rw [only d hd]; exact (by decide : (0 : Fin 8) ≠ 4)
    · rw [drains d hd]; exact (by decide : (5 : Fin 8) ≠ 4)
  rwa [EventUnit.raiseAll_append] at line

theorem EventUnit.afterReset_drained (only : ∀ d ∈ ended, d.source = 0) :
    (u.afterReset ended drained).sources[(5 : Fin 8)] = ((u.raiseAll ended).raiseAll drained).sources[(5 : Fin 8)]
      ∧ (u.raiseAll ended).sources[(5 : Fin 8)] = u.sources[(5 : Fin 8)]
      ∧ (u.raiseAll ended).occurrences 5 = u.occurrences 5 := by
  have untouched : (u.raiseAll ended).sources[(5 : Fin 8)] = u.sources[(5 : Fin 8)] :=
    EventUnit.raiseAll_sources_other fun d hd => by rw [only d hd]; decide
  refine ⟨?_, untouched, EventUnit.occurrences_congr untouched⟩
  rw [EventUnit.afterReset, EventUnit.raise_sources_other (d := .line .idle .reset) (n := 5) (by decide)]

/-- No mark, one mark, or two marks completed. -/
theorem EventUnit.afterReset_drained_nil (only : ∀ d ∈ ended, d.source = 0) :
    (u.afterReset ended []).sources[(5 : Fin 8)] = u.sources[(5 : Fin 8)] :=
  (EventUnit.afterReset_drained only).1.trans (EventUnit.afterReset_drained (drained := []) only).2.1

theorem EventUnit.afterReset_drained_one (only : ∀ d ∈ ended, d.source = 0) (path : Path) :
    (u.afterReset ended [.drained path]).sources[(5 : Fin 8)] =
      some ⟨.drained path, min 255 (u.occurrences 5 + 1)⟩ := by
  obtain ⟨marked, -, occurrences⟩ := EventUnit.afterReset_drained (drained := [.drained path]) (u := u) only
  rw [marked, ← occurrences]
  exact (EventUnit.raise_sources ..).trans (if_pos rfl)

theorem EventUnit.afterReset_drained_two (only : ∀ d ∈ ended, d.source = 0) (first path : Path) :
    (u.afterReset ended [.drained first, .drained path]).sources[(5 : Fin 8)] =
      some ⟨.drained path, min 255 (u.occurrences 5 + 2)⟩ := by
  obtain ⟨marked, -, occurrences⟩ :=
    EventUnit.afterReset_drained (drained := [.drained first, .drained path]) (u := u) only
  have once : ((u.raiseAll ended).raise (.drained first)).occurrences 5 = min 255 (u.occurrences 5 + 1) := by
    rw [← occurrences]
    exact EventUnit.raise_occurrences _ (.drained first)
  rw [marked]
  refine (EventUnit.raise_sources ..).trans ((if_pos rfl).trans ?_)
  show some (Occurrence.mk (.drained path)
    (min 255 (((u.raiseAll ended).raise (.drained first)).occurrences 5 + 1))) = _
  rw [once, show min 255 (min 255 (u.occurrences 5 + 1) + 1) = min 255 (u.occurrences 5 + 2) by omega]

theorem EventUnit.afterReset_sources (u : EventUnit) (ended drained : List EventDetail) :
    u.afterReset ended drained = { u with sources := (u.afterReset ended drained).sources } := by
  have all : u.afterReset ended drained = u.raiseAll (ended ++ drained ++ [.line .idle .reset]) := by
    rw [EventUnit.raiseAll_append, EventUnit.raiseAll_append]; rfl
  rw [all]
  exact u.raiseAll_sources _

end ResetEvents

/-- Settles O25: the blocks by `State.resetLine_blocks`, the marks and events of each port by `State.resetLine_port`. -/
theorem lineResetReturnsTheLineSide : Obligations.LineResetReturnsTheLineSide := by
  intro s p serves
  have slots : ((s.attach p).failActive .lineReset).slots = (s.failActive .lineReset).slots := by
    rw [State.attach_failActive]; rfl
  have ends : ∀ q, ((s.attach p).failActive .lineReset).events.get q = (s.failActive .lineReset).events.get q := by
    intro q; rw [State.attach_failActive]; rfl
  refine ⟨(s.attach p).resetLine, State.servePort_next serves rfl, ?_, fun q => ?_⟩
  · rw [← slots]
    exact (s.attach p).resetLine_blocks
  · intro line print u v
    obtain ⟨ended, first, second, printed, only, failed, raised, complete, kept, completePrint, keptPrint⟩ :=
      (s.attach p).resetLine_port q
    rw [ends q] at failed
    have events : v = u.afterReset ended (first ++ printed ++ second) := raised
    have lineDrains : (∀ d ∈ first, d.source = 5) ∧ ∀ d ∈ second, d.source = 5 := by
      by_cases any : ∃ n, line n
      · obtain ⟨n, done⟩ := any
        rcases (complete n done).2 with ⟨rfl, rfl⟩ | ⟨rfl, rfl⟩ <;> simp [EventDetail.source]
      · obtain ⟨-, rfl, rfl⟩ := kept (not_exists.1 any)
        simp
    have printDrains : ∀ d ∈ printed, d.source = 5 := by
      by_cases any : ∃ r, print r
      · obtain ⟨r, done⟩ := any
        simp [(completePrint r done).2, EventDetail.source]
      · simp [(keptPrint (not_exists.1 any)).2]
    have drains : ∀ d ∈ first ++ printed ++ second, d.source = 5 := by
      intro d hd
      rcases List.mem_append.1 hd with hd | hd
      · rcases List.mem_append.1 hd with hd | hd
        · exact lineDrains.1 d hd
        · exact printDrains d hd
      · exact lineDrains.2 d hd
    refine ⟨fun n done => (complete n done).1, fun never => (kept never).1, fun r done => (completePrint r done).1,
      fun never => (keptPrint never).1, ?_, ?_, ?_, fun n zero line five => ?_, fun noLine noPrint => ?_,
      fun n done noPrint => ?_, fun r noLine done => ?_, fun n r done done' => ?_⟩ <;> rw [events]
    · exact EventUnit.afterReset_sources ..
    · exact EventUnit.afterReset_line only drains
    · rw [failed]
      exact EventUnit.afterReset_ended drains
    · exact EventUnit.afterReset_other only drains zero line five
    · obtain ⟨-, rfl, rfl⟩ := kept noLine
      rw [(keptPrint noPrint).2]
      exact EventUnit.afterReset_drained_nil only
    · rw [(keptPrint noPrint).2]
      rcases (complete n done).2 with ⟨rfl, rfl⟩ | ⟨rfl, rfl⟩
      · exact EventUnit.afterReset_drained_one only .line
      · exact EventUnit.afterReset_drained_one only .line
    · obtain ⟨-, rfl, rfl⟩ := kept noLine
      rw [(completePrint r done).2]
      exact EventUnit.afterReset_drained_one only .print
    · rw [(completePrint r done').2]
      rcases (complete n done).2 with ⟨rfl, rfl⟩ | ⟨rfl, rfl⟩
      · exact ⟨.print, EventUnit.afterReset_drained_two only .line .print⟩
      · exact ⟨.line, EventUnit.afterReset_drained_two only .print .line⟩


end Sys2Proof.Machine
end

section
/-! PROOF. The demodulator and the bit sampler (chapter 2): half-periods and the carrier status, the sampler at a sample
in each of its states, and that a frame as it is sent is received as the byte sent. -/

namespace Sys2Proof.Machine

open Sys2Proof

/-! ## Half-periods (R33 to R38) -/

/-- The receive band is the high one in ORIGINATE alone (R27). -/
theorem receiveHigh_iff (m : Mode) : receiveHigh m = true ↔ m = .originate := by cases m <;> simp [receiveHigh]

/-- The window of the receive band (R33). -/
theorem inWindow_iff (m : Mode) (p : Nat) : inWindow (receiveHigh m) p = true ↔
    (m = .originate ∧ 400 ≤ p ∧ p ≤ 540) ∨ (m ≠ .originate ∧ 760 ≤ p ∧ p ≤ 1120) := by
  cases m <;> simp [inWindow, receiveHigh]

/-- The decided level leaves mark at 8 ticks above the threshold (R34). -/
theorem classify_mark_iff (m : Mode) (p : Nat) : classify (receiveHigh m) .mark p = .space ↔
    (m = .originate ∧ 476 ≤ p) ∨ (m ≠ .originate ∧ 942 ≤ p) := by
  cases m <;> simp [classify, receiveHigh, threshold]

/-- The decided level leaves space at 8 ticks below the threshold (R34). -/
theorem classify_space_iff (m : Mode) (p : Nat) : classify (receiveHigh m) .space p = .mark ↔
    (m = .originate ∧ p < 460) ∨ (m ≠ .originate ∧ p < 926) := by
  cases m <;> simp [classify, receiveHigh, threshold]

/-- The modem before the period reaches the carrier status: the half-period recorded and the level decided. -/
def Modem.decided (m : Modem) (h : Nat) : Modem :=
  let p := h + m.hPrev
  { m with
    hPrev := h, crossing := 0
    level := if inWindow (receiveHigh m.mode) p && m.carrier = .present then classify (receiveHigh m.mode) m.level p
      else m.level }

/-- A half-period recorded changes the modem alone. -/
theorem State.recordHalfPeriod_eq (s : State) (h : Nat) :
    s.recordHalfPeriod h = { s with
      modem := (s.modem.decided h).carrierPeriod (inWindow (receiveHigh s.modem.mode) (h + s.modem.hPrev))
        (s.sup.state = .idle) (ms s.settings.qualifyTime) } := by
  unfold State.recordHalfPeriod Modem.decided
  dsimp only
  split <;> rfl

/-- The carrier status changes nothing but itself and its three timers. -/
theorem Modem.carrierPeriod_frame (m : Modem) (inside idle : Bool) (q : Nat) :
    m.carrierPeriod inside idle q = { m with
      level := (m.carrierPeriod inside idle q).level
      carrier := (m.carrierPeriod inside idle q).carrier
      qualifyTimer := (m.carrierPeriod inside idle q).qualifyTimer
      silenceTimer := (m.carrierPeriod inside idle q).silenceTimer
      requalifyTimer := (m.carrierPeriod inside idle q).requalifyTimer } := by
  unfold Modem.carrierPeriod
  split
  · split <;> rfl
  · split <;> rfl
  · split <;> rfl
  · split
    · split <;> rfl
    · rfl

@[simp] theorem Modem.carrierPeriod_level (m : Modem) (inside idle : Bool) (q : Nat) :
    (m.carrierPeriod inside idle q).level = m.level := by
  unfold Modem.carrierPeriod
  split
  · split <;> rfl
  · split <;> rfl
  · split <;> rfl
  · split
    · split <;> rfl
    · rfl

/-! A full period in each status (R35 to R38). -/

section CarrierPeriod

variable {m : Modem} {q : Nat}

theorem Modem.carrierPeriod_absent (h : m.carrier = .absent) (inside idle : Bool) :
    m.carrierPeriod inside idle q =
      if inside && !idle then { m with carrier := .qualifying, qualifyTimer := some q } else m := by
  simp only [Modem.carrierPeriod, h]

theorem Modem.carrierPeriod_qualifying (h : m.carrier = .qualifying) (inside idle : Bool) :
    m.carrierPeriod inside idle q = if inside then m else { m with carrier := .absent, qualifyTimer := none } := by
  simp only [Modem.carrierPeriod, h]

theorem Modem.carrierPeriod_present (h : m.carrier = .present) (inside idle : Bool) :
    m.carrierPeriod inside idle q = if inside then { m with silenceTimer := some (ms 20) } else m := by
  simp only [Modem.carrierPeriod, h]

theorem Modem.carrierPeriod_fading (h : m.carrier = .fading) (inside idle : Bool) :
    m.carrierPeriod inside idle q =
      if inside then (if m.requalifyTimer.isNone then { m with requalifyTimer := some (ms 20) } else m)
      else { m with requalifyTimer := none } := by
  simp only [Modem.carrierPeriod, h]

end CarrierPeriod

theorem State.speakerSounds_iff (s : State) :
    s.speakerSounds = true ↔ s.modem.modulator ≠ .off ∧ s.modem.mode ≠ .loop := by
  simp [State.speakerSounds]

/-- The events that record a half-period (R33). -/
theorem exec_recordHalfPeriod {s : State} {i : Instr} {h : Nat} (running : s.power ≠ .held)
    (records : (∃ n, s.modem.mode ≠ .loop ∧ i = .zeroCrossing n ∧ h = min (s.modem.crossing + n) 4095)
      ∨ (i = .crossingCounter4095 ∧ h = 4095)) : exec i s = .next (s.recordHalfPeriod h) := by
  rcases records with ⟨n, microphone, rfl, rfl⟩ | ⟨rfl, rfl⟩
  · have input : demodInput s.modem.mode ≠ .modulator := by
      cases mode : s.modem.mode <;> simp [demodInput]
      exact microphone mode
    show Host.Outcome.next (if _ then _ else _) = _
    rw [if_neg (by simp [running, input])]
  · show Host.Outcome.next (if _ then _ else _) = _
    rw [if_neg running]

/-- Settles O29: the level by `classify`, the status and its timers by the status found. -/
theorem halfPeriods : Obligations.HalfPeriods := by
  refine ⟨fun s => ⟨fun n loop => ?_, fun quiet => ?_, fun on mode => ?_⟩, fun s i h running records => ?_⟩
  · show Host.Outcome.next (if _ then _ else _) = _
    rw [if_pos (by simp [loop, demodInput])]
  · rw [State.speakerDrive, if_neg]
    rw [State.speakerSounds_iff]
    rintro ⟨on, mode⟩
    exact quiet.elim on mode
  · rw [State.speakerDrive, if_pos (s.speakerSounds_iff.2 ⟨on, mode⟩)]
  intro p high inside
  have window : inWindow (receiveHigh s.modem.mode) p = decide inside := by
    rw [Bool.eq_iff_iff, decide_eq_true_iff]
    exact inWindow_iff _ p
  have decided : inside → s.modem.carrier = .present →
      (s.modem.decided h).level = classify (receiveHigh s.modem.mode) s.modem.level p := fun within present => by
    refine if_pos ?_
    rw [show inWindow (receiveHigh s.modem.mode) (h + s.modem.hPrev) = decide inside from window]
    simp [within, present]
  refine ⟨(s.modem.decided h).carrierPeriod (decide inside) (s.sup.state = .idle) (ms s.settings.qualifyTime), ?_,
    ?_, ?_,
    fun present within => ⟨fun mark => ?_, fun space => ?_⟩, fun absent => ?_, fun qualifying => ?_,
      fun present => ?_, fun fading => ?_⟩
  · rw [exec_recordHalfPeriod running records, State.recordHalfPeriod_eq, window]
  · exact Modem.carrierPeriod_frame _ _ _ _
  · intro stays
    rw [Modem.carrierPeriod_level, Modem.decided, if_neg]
    rw [show inWindow (receiveHigh s.modem.mode) (h + s.modem.hPrev) = decide inside from window]
    rcases stays with h | h <;> simp [h]
  · rw [Modem.carrierPeriod_level, decided within present, mark]
    exact classify_mark_iff _ p
  · rw [Modem.carrierPeriod_level, decided within present, space]
    exact classify_space_iff _ p
  · have status : (s.modem.decided h).carrier = .absent := absent
    rw [Modem.carrierPeriod_absent status]
    by_cases counts : inside ∧ s.sup.state ≠ .idle
    · simp [counts, ms, Modem.decided]
    · rw [if_neg (by simpa using counts)]
      exact ⟨rfl, rfl, fun h => absurd h counts, fun _ => ⟨absent, rfl⟩⟩
  · have status : (s.modem.decided h).carrier = .qualifying := qualifying
    rw [Modem.carrierPeriod_qualifying status]
    by_cases within : inside <;> simp [within, Modem.decided, qualifying]
  · have status : (s.modem.decided h).carrier = .present := present
    rw [Modem.carrierPeriod_present status]
    by_cases within : inside <;> simp [within, Modem.decided, present, ms]
  · have status : (s.modem.decided h).carrier = .fading := fading
    rw [Modem.carrierPeriod_fading status]
    by_cases within : inside
    · cases timer : s.modem.requalifyTimer <;> simp [within, Modem.decided, fading, timer, ms]
    · simp [within, Modem.decided, fading]

/-! ## The bit sampler at a sample (R40 to R43) -/

/-- The receive frame length, as the sum of its parts (R43). -/
theorem frameLength_eq (t : Settings) : frameLength t = 16 * (1 + dataAndParity t + t.stopBits) := by
  simp [frameLength, dataAndParity, Nat.add_assoc]

section Sample

variable {t : Settings} {x : Sampler} {l : Level}

theorem nextRun_mark (n : Nat) : nextRun n .mark = 0 := rfl

theorem nextRun_space (n : Nat) : nextRun n .space = n + 1 := rfl

theorem Sampler.sample_suspended (state : x.state = .suspended) : x.sample t l = (x, .nothing) := by
  simp only [Sampler.sample, state]

theorem Sampler.sample_hunt (state : x.state = .hunt) (run : nextRun x.spaceRun l < 2 * frameLength t) :
    x.sample t l = (if l = .space then ⟨.start, 1, [], nextRun x.spaceRun l⟩ else ⟨.hunt, 0, [], nextRun x.spaceRun l⟩,
      .nothing) := by
  simp only [Sampler.sample, state, decide_eq_true_eq, if_neg (Nat.not_le.2 run)]
  split <;> rfl

theorem Sampler.sample_start (state : x.state = .start) (run : nextRun x.spaceRun l < 2 * frameLength t) :
    x.sample t l = (if x.position + 1 = 8 then
        (if l = .space then ⟨.data, 8, [], nextRun x.spaceRun l⟩ else ⟨.hunt, 0, [], nextRun x.spaceRun l⟩)
      else ⟨.start, x.position + 1, [], nextRun x.spaceRun l⟩, .nothing) := by
  simp only [Sampler.sample, state, decide_eq_true_eq, if_neg (Nat.not_le.2 run)]
  split
  · split <;> rfl
  · rfl

/-- The stop bit ends a character (R42). -/
theorem Sampler.sample_stop (state : x.state = .data) (run : nextRun x.spaceRun l < 2 * frameLength t)
    (stop : x.position + 1 = stopPosition t) :
    x.sample t l = (⟨if l = .mark then .hunt else .waitMark, 0, [], nextRun x.spaceRun l⟩,
      .character (assembledByte t x.bits) (parityDisagrees t x.bits || decide (l = .space))) := by
  simp only [Sampler.sample, state, decide_eq_true_eq, if_neg (Nat.not_le.2 run), if_pos stop]

/-- A sample inside the data and parity bits: at the middle of a bit it is taken (R42). -/
theorem Sampler.sample_data (state : x.state = .data) (run : nextRun x.spaceRun l < 2 * frameLength t)
    (inside : x.position + 1 ≠ stopPosition t) (begun : 8 ≤ x.position) :
    x.sample t l = (⟨.data, x.position + 1,
      if (x.position + 1) % 16 = 8 then x.bits ++ [decide (l = .mark)] else x.bits, nextRun x.spaceRun l⟩,
        .nothing) := by
  have middle : (x.position + 1 - 8) % 16 = 0 ↔ (x.position + 1) % 16 = 8 := by omega
  simp only [Sampler.sample, state, decide_eq_true_eq, if_neg (Nat.not_le.2 run), if_neg inside, middle]
  split <;> rfl

theorem Sampler.sample_waitMark (state : x.state = .waitMark) (run : nextRun x.spaceRun l < 2 * frameLength t) :
    x.sample t l = (⟨if l = .mark then .hunt else .waitMark, 0, [], nextRun x.spaceRun l⟩, .nothing) := by
  simp only [Sampler.sample, state, decide_eq_true_eq, if_neg (Nat.not_le.2 run)]

theorem Sampler.sample_breaking (state : x.state = .breaking) :
    x.sample t l = (if l = .mark then ⟨.hunt, 0, [], 0⟩ else { x with spaceRun := nextRun x.spaceRun l },
      .nothing) := by
  simp only [Sampler.sample, state]
  split <;> rfl

/-- A run of 2F is a break in every state that takes samples but BREAK (R43). -/
theorem Sampler.sample_break (taking : x.state ≠ .suspended) (unbroken : x.state ≠ .breaking)
    (run : 2 * frameLength t ≤ nextRun x.spaceRun l) :
    x.sample t l = (Sampler.enterBreak (nextRun x.spaceRun l), .breakSeen) := by
  cases state : x.state with
  | suspended => exact absurd state taking
  | breaking => exact absurd state unbroken
  | hunt | start | data | waitMark => simp only [Sampler.sample, state, decide_eq_true_eq, if_pos run]

end Sample

/-! ## What a sample completes -/

section Completes

variable {s : State} {y : Sampler}

/-- BIT_SAMPLER_SAMPLE is what the sampler makes of the decided level. -/
theorem exec_bitSamplerSample (s : State) : exec .bitSamplerSample s =
    .next (s.takeSampled (s.modem.sampler.sample s.settings s.modem.level).1
      (s.modem.sampler.sample s.settings s.modem.level).2) := rfl

theorem exec_bitSamplerSample_moves (h : s.modem.sampler.sample s.settings s.modem.level = (y, .nothing)) :
    exec .bitSamplerSample s = .next { s with modem.sampler := y } := by
  rw [exec_bitSamplerSample, h]
  rfl

/-- A break received abandons the record under assembly and alerts both ports (R43, R70). -/
theorem State.breakIn_eq (s : State) (run : Nat) : s.breakIn run = { s with
    modem.sampler := ⟨.breaking, 0, [], run⟩
    parser.state := .text
    parser.counters.discarded := if s.parser.state.assembling then bump s.parser.counters.discarded
      else s.parser.counters.discarded }.alertBoth .breakReceived := by
  unfold State.breakIn State.takeBreak State.breakRecord State.abandon
  by_cases assembling : s.parser.state.assembling = true
  · simp only [assembling, if_true]
    rfl
  · simp only [assembling]
    rfl

end Completes

/-! ## The byte and its parity (R30, R42) -/

theorem bitsToNat_eq_flagBits (l : List Bool) : bitsToNat l = flagBits l := by
  induction l with
  | nil => rfl
  | cons b l ih => simp only [bitsToNat, flagBits, ih]

/-- The byte assembled holds the data bits, and 0 above them. -/
theorem assembledByte_getLsbD (t : Settings) (bits : List Bool) {k : Nat} (h : k < 8) :
    (assembledByte t bits).getLsbD k = (decide (k < t.dataBits) && bits.getD k false) := by
  rw [assembledByte, bitsToNat_eq_flagBits, byteOf_flagBits_getLsbD _ h]
  by_cases inside : k < t.dataBits
  · simp [List.getD, inside]
  · simp [List.getD, inside]

/-- How many of a list's bits are mark, split behind the data bits. -/
theorem marks_append (l m : List Bool) : marks (l ++ m) = marks l + marks m := by
  simp [marks]

/-- A wrong parity, with as many bits taken as the format has (R42). -/
theorem parityDisagrees_iff {t : Settings} {bits : List Bool} (all : bits.length = dataAndParity t) :
    parityDisagrees t bits = true ↔ (t.parity = .even ∧ marks bits % 2 = 1) ∨ (t.parity = .odd ∧ marks bits % 2 = 0)
      ∨ (t.parity = .mark ∧ bits[t.dataBits]? = some false) := by
  by_cases none : t.parity = .none
  · simp [parityDisagrees, parityBit, none]
  have length : bits.length = t.dataBits + 1 := by simpa [dataAndParity, none] using all
  have last : bits[t.dataBits]? = some bits[t.dataBits] := List.getElem?_eq_getElem (by omega)
  have split : marks bits = marks (bits.take t.dataBits) + if bits[t.dataBits] then 1 else 0 := by
    conv_lhs => rw [← List.take_append_drop t.dataBits bits, marks_append,
      List.drop_eq_getElem_cons (by omega : t.dataBits < bits.length), List.drop_eq_nil_of_le (by omega)]
    cases bits[t.dataBits] <;> rfl
  rw [split, last]
  cases parity : t.parity with
  | none => exact absurd parity none
  | even =>
    cases got : bits[t.dataBits]
    · simp [parityDisagrees, parityBit, parity, last, got]
    · simp [parityDisagrees, parityBit, parity, last, got]
      omega
  | odd =>
    cases got : bits[t.dataBits]
    · simp [parityDisagrees, parityBit, parity, last, got]
    · simp [parityDisagrees, parityBit, parity, last, got]
      omega
  | mark => cases got : bits[t.dataBits] <;> simp [parityDisagrees, parityBit, parity, last, got]

/-- Settles O31: the three reports of the sampler, then a sample in each of its states. -/
theorem samplerCommands : Obligations.SamplerCommands := by
  refine ⟨fun s b pf ss receiving => ?_, fun s receiving => ?_, fun s breaking => ?_, fun s => ?_⟩
  · show Host.Outcome.next (if _ then _ else _) = _
    rw [if_pos receiving]
    rfl
  · show Host.Outcome.next (if _ then _ else _) = _
    rw [if_pos receiving, State.breakIn_eq]
    rfl
  · show Host.Outcome.next (if _ then _ else _) = _
    rw [if_pos breaking]
  intro x bits f run moves
  have frame : frameLength s.settings = f := frameLength_eq s.settings
  have short : ∀ {n}, n < 2 * f → n < 2 * frameLength s.settings := fun h => frame ▸ h
  refine ⟨fun state => ?_, fun state mark some => ?_, fun state space few => ?_, fun state place mark some => ?_,
    fun state place space few => ?_, fun state place few => ?_,
      fun state begun few inside => ⟨fun middle => ?_, fun aside => ?_⟩,
    fun state few stop all eight => ?_, fun state mark some => ?_, fun state space few => ?_, fun state mark => ?_,
    fun state space => ?_, fun taking unbroken space broken => ?_⟩
  · exact exec_bitSamplerSample_moves (Sampler.sample_suspended state)
  · exact exec_bitSamplerSample_moves (by
      rw [mark, Sampler.sample_hunt state (short (by rw [nextRun_mark]; omega))]; rfl)
  · exact exec_bitSamplerSample_moves (by
      rw [space, Sampler.sample_hunt (l := .space) state (short few)]; rfl)
  · exact exec_bitSamplerSample_moves (by
      rw [mark, Sampler.sample_start state (short (by rw [nextRun_mark]; omega)), if_pos (by omega)]; rfl)
  · exact exec_bitSamplerSample_moves (by
      rw [space, Sampler.sample_start (l := .space) state (short few), if_pos (by omega)]; rfl)
  · exact exec_bitSamplerSample_moves (by
      rw [Sampler.sample_start state (short few), if_neg (by omega)]; rfl)
  · exact exec_bitSamplerSample_moves (by
      rw [Sampler.sample_data state (short few) inside begun, if_pos middle]; rfl)
  · exact exec_bitSamplerSample_moves (by
      rw [Sampler.sample_data state (short few) inside begun, if_neg aside]; rfl)
  · refine ⟨assembledByte s.settings x.bits, parityDisagrees s.settings x.bits || decide (s.modem.level = .space), ?_,
      fun k hk => assembledByte_getLsbD s.settings x.bits hk, ?_⟩
    · rw [exec_bitSamplerSample, Sampler.sample_stop state (short few) stop]
      rfl
    · rw [Bool.or_eq_true, parityDisagrees_iff all, decide_eq_true_iff, or_comm]
      rfl
  · exact exec_bitSamplerSample_moves (by
      rw [mark, Sampler.sample_waitMark state (short (by rw [nextRun_mark]; omega))]; rfl)
  · exact exec_bitSamplerSample_moves (by
      rw [space, Sampler.sample_waitMark (l := .space) state (short few)]; rfl)
  · exact exec_bitSamplerSample_moves (by
      rw [mark, Sampler.sample_breaking state]; rfl)
  · exact exec_bitSamplerSample_moves (by
      rw [space, Sampler.sample_breaking state]; rfl)
  · have run : nextRun x.spaceRun s.modem.level = 2 * f := by rw [space, nextRun_space, broken]
    rw [exec_bitSamplerSample, Sampler.sample_break taking unbroken (by rw [run, frame])]
    show Host.Outcome.next (s.breakIn (nextRun x.spaceRun s.modem.level)) = _
    rw [run, State.breakIn_eq]


/-! ## A frame as sent, received (R30 against R41 and R42) -/

section Frame

variable {t : Settings}

theorem samplerRun_append (x : Sampler) (l m : List Level) :
    samplerRun t x (l ++ m) = ((samplerRun t (samplerRun t x l).1 m).1,
      (samplerRun t x l).2 ++ (samplerRun t (samplerRun t x l).1 m).2) := by
  induction l generalizing x with
  | nil => rfl
  | cons a l ih =>
    simp only [List.cons_append, samplerRun, ih]
    split <;> rfl

/-- Two runs of samples, one behind the other. -/
theorem samplerRun_append_of {x y z : Sampler} {l m : List Level} {a b : List Sampled}
    (first : samplerRun t x l = (y, a)) (second : samplerRun t y m = (z, b)) :
    samplerRun t x (l ++ m) = (z, a ++ b) := by
  rw [samplerRun_append, first, second]

/-- A sample that hands nothing, before the rest. -/
theorem samplerRun_cons_nothing {x y : Sampler} {l : Level} (moved : x.sample t l = (y, .nothing)) (m : List Level) :
    samplerRun t x (l :: m) = samplerRun t y m := by
  simp [samplerRun, moved]

theorem nextRun_le (n : Nat) (l : Level) : nextRun n l ≤ n + 1 := by
  unfold nextRun; split <;> omega

/-- The stop bit lies within the frame, and so no run of its samples is a break (R43). -/
theorem stopPosition_lt_frameLength (stops : 1 ≤ t.stopBits) : stopPosition t < frameLength t := by
  rw [stopPosition, frameLength_eq]; omega

/-- Marks keep a sampler in HUNT (R41). -/
theorem samplerRun_hunt_marks (k : Nat) :
    samplerRun t ⟨.hunt, 0, [], 0⟩ (List.replicate k .mark) = (⟨.hunt, 0, [], 0⟩, []) := by
  induction k with
  | zero => rfl
  | succ k ih =>
    have moved : Sampler.sample ⟨.hunt, 0, [], 0⟩ t .mark = (⟨.hunt, 0, [], 0⟩, .nothing) := by
      rw [Sampler.sample_hunt rfl (by rw [nextRun_mark, frameLength_eq]; omega)]; rfl
    rw [List.replicate_succ, samplerRun_cons_nothing moved, ih]

/-- The first samples of a start bit are counted (R41). -/
theorem samplerRun_start (stops : 1 ≤ t.stopBits) (k p : Nat) (before : p + k < 8) :
    samplerRun t ⟨.start, p, [], p⟩ (List.replicate k .space) = (⟨.start, p + k, [], p + k⟩, []) := by
  induction k generalizing p with
  | zero => rfl
  | succ k ih =>
    have moved : Sampler.sample ⟨.start, p, [], p⟩ t .space = (⟨.start, p + 1, [], p + 1⟩, .nothing) := by
      rw [Sampler.sample_start rfl (by rw [nextRun_space, frameLength_eq]; dsimp only; omega),
        if_neg (show ¬ p + 1 = 8 by omega)]
      rfl
    rw [List.replicate_succ, samplerRun_cons_nothing moved, ih _ (by omega), Nat.add_right_comm, Nat.add_assoc]

/-- Between the middles of two bits nothing is taken (R42). -/
theorem samplerRun_between (stops : 1 ≤ t.stopBits) (l : Level) (bits : List Bool) (k p r : Nat) (begun : 8 ≤ p)
    (inside : p + k < stopPosition t) (quiet : ∀ j, 1 ≤ j → j ≤ k → (p + j) % 16 ≠ 8) (few : r ≤ p) :
    ∃ r' ≤ p + k, samplerRun t ⟨.data, p, bits, r⟩ (List.replicate k l) = (⟨.data, p + k, bits, r'⟩, []) := by
  induction k generalizing p r with
  | zero => exact ⟨r, few, rfl⟩
  | succ k ih =>
    have bound := stopPosition_lt_frameLength stops
    have next := nextRun_le r l
    have moved : Sampler.sample ⟨.data, p, bits, r⟩ t l = (⟨.data, p + 1, bits, nextRun r l⟩, .nothing) := by
      rw [Sampler.sample_data rfl (show nextRun r l < 2 * frameLength t by omega)
        (show p + 1 ≠ stopPosition t by omega) begun, if_neg (quiet 1 (by omega) (by omega))]
    obtain ⟨r', few', ran⟩ := ih (p + 1) (nextRun r l) (by omega) (by omega)
      (fun j first last => by rw [Nat.add_assoc]; exact quiet (1 + j) (by omega) (by omega)) (by omega)
    refine ⟨r', by omega, ?_⟩
    rw [List.replicate_succ, samplerRun_cons_nothing moved, ran, Nat.add_assoc, Nat.add_comm 1 k]

/-- The 16 samples of a start bit reach the first bit (R41). -/
theorem samplerRun_startBit (stops : 1 ≤ t.stopBits) :
    ∃ r ≤ 16, samplerRun t ⟨.hunt, 0, [], 0⟩ (List.replicate 16 .space) = (⟨.data, 16, [], r⟩, []) := by
  have frame := frameLength_eq t
  have hunts : Sampler.sample ⟨.hunt, 0, [], 0⟩ t .space = (⟨.start, 1, [], 1⟩, .nothing) := by
    rw [Sampler.sample_hunt rfl (by rw [nextRun_space]; dsimp only; omega)]; rfl
  have starts : Sampler.sample ⟨.start, 7, [], 7⟩ t .space = (⟨.data, 8, [], 8⟩, .nothing) := by
    rw [Sampler.sample_start rfl (by rw [nextRun_space]; dsimp only; omega)]; rfl
  obtain ⟨r, few, ran⟩ := samplerRun_between stops .space [] 8 8 8 (by omega) (by rw [stopPosition]; omega)
    (fun j _ _ => by omega) (by omega)
  refine ⟨r, few, ?_⟩
  rw [show List.replicate 16 Level.space = .space :: (List.replicate 6 .space ++ .space :: List.replicate 8 .space)
    from rfl, samplerRun_cons_nothing hunts, samplerRun_append, samplerRun_start stops 6 1 (by omega),
    samplerRun_cons_nothing starts, ran]
  rfl

/-- The 16 samples of a data or parity bit take it (R42). -/
theorem samplerRun_bit (stops : 1 ≤ t.stopBits) (b : Bool) (bits : List Bool) {j r : Nat}
    (inside : j < dataAndParity t) (few : r ≤ 16 * (j + 1)) :
    ∃ r' ≤ 16 * (j + 2), samplerRun t ⟨.data, 16 * (j + 1), bits, r⟩ (List.replicate 16 (levelOf b))
      = (⟨.data, 16 * (j + 2), bits ++ [b], r'⟩, []) := by
  have bound := stopPosition_lt_frameLength stops
  have stop : stopPosition t = 8 + 16 * (dataAndParity t + 1) := rfl
  obtain ⟨r₁, few₁, before⟩ := samplerRun_between stops (levelOf b) bits 7 (16 * (j + 1)) r (by omega) (by omega)
    (fun i _ _ => by omega) few
  have next := nextRun_le r₁ (levelOf b)
  have middle : Sampler.sample ⟨.data, 16 * (j + 1) + 7, bits, r₁⟩ t (levelOf b)
      = (⟨.data, 16 * (j + 1) + 8, bits ++ [b], nextRun r₁ (levelOf b)⟩, .nothing) := by
    rw [Sampler.sample_data rfl (show nextRun r₁ (levelOf b) < 2 * frameLength t by omega)
      (show 16 * (j + 1) + 7 + 1 ≠ stopPosition t by omega) (show 8 ≤ 16 * (j + 1) + 7 by omega),
        if_pos (by dsimp only; omega)]
    cases b <;> rfl
  obtain ⟨r₂, few₂, behind⟩ := samplerRun_between stops (levelOf b) (bits ++ [b]) 8 (16 * (j + 1) + 8)
    (nextRun r₁ (levelOf b)) (by omega) (by omega) (fun i _ _ => by omega) (by omega)
  refine ⟨r₂, by omega, ?_⟩
  rw [show List.replicate 16 (levelOf b)
      = List.replicate 7 (levelOf b) ++ levelOf b :: List.replicate 8 (levelOf b) from rfl,
    samplerRun_append, before, samplerRun_cons_nothing middle, behind]
  rfl

/-- The samples of the data bits and the parity bit take them all (R42). -/
theorem samplerRun_bits (stops : 1 ≤ t.stopBits) (sent bits : List Bool) (j r : Nat)
    (inside : j + sent.length ≤ dataAndParity t) (few : r ≤ 16 * (j + 1)) :
    ∃ r' ≤ 16 * (j + sent.length + 1), samplerRun t ⟨.data, 16 * (j + 1), bits, r⟩
        ((sent.map levelOf).flatMap fun l => List.replicate 16 l)
      = (⟨.data, 16 * (j + sent.length + 1), bits ++ sent, r'⟩, []) := by
  induction sent generalizing bits j r with
  | nil => exact ⟨r, few, by rw [List.append_nil]; rfl⟩
  | cons b sent ih =>
    rw [List.length_cons] at inside
    obtain ⟨r₁, few₁, one⟩ := samplerRun_bit stops b bits (show j < dataAndParity t by omega) few
    obtain ⟨r₂, few₂, rest⟩ := ih (bits ++ [b]) (j + 1) r₁ (by omega) few₁
    have place : j + (b :: sent).length + 1 = j + 1 + sent.length + 1 := by rw [List.length_cons]; omega
    refine ⟨r₂, place ▸ few₂, ?_⟩
    rw [List.map_cons, List.flatMap_cons, samplerRun_append, one, rest, place, List.append_assoc]
    rfl

/-- The samples of the stop bits hand the character, at the 8th of them, and keep the sampler in HUNT (R41, R42). -/
theorem samplerRun_stopBits (stops : 1 ≤ t.stopBits) (bits : List Bool) {r : Nat}
    (few : r ≤ 16 * (dataAndParity t + 1)) :
    samplerRun t ⟨.data, 16 * (dataAndParity t + 1), bits, r⟩
        ((List.replicate t.stopBits Level.mark).flatMap fun l => List.replicate 16 l)
      = (⟨.hunt, 0, [], 0⟩, [.character (assembledByte t bits) (parityDisagrees t bits)]) := by
  have stop : stopPosition t = 8 + 16 * (dataAndParity t + 1) := rfl
  obtain ⟨more, count⟩ : ∃ more, t.stopBits = more + 1 := ⟨t.stopBits - 1, by omega⟩
  obtain ⟨r₁, few₁, before⟩ := samplerRun_between stops .mark bits 7 (16 * (dataAndParity t + 1)) r (by omega)
    (by omega) (fun i _ _ => by omega) few
  have handed : Sampler.sample ⟨.data, 16 * (dataAndParity t + 1) + 7, bits, r₁⟩ t .mark
      = (⟨.hunt, 0, [], 0⟩, .character (assembledByte t bits) (parityDisagrees t bits)) := by
    rw [Sampler.sample_stop rfl (by rw [nextRun_mark, frameLength_eq]; omega) (by rw [stop]; dsimp only; omega)]
    simp [nextRun_mark]
  have cells : ((List.replicate t.stopBits Level.mark).flatMap fun l => List.replicate 16 l)
      = List.replicate 7 .mark ++ .mark :: List.replicate (8 + 16 * more) .mark := by
    rw [count, List.replicate_succ, List.flatMap_cons, List.flatMap_replicate, List.flatten_replicate_replicate,
      List.replicate_add, Nat.mul_comm more 16]
    rfl
  rw [cells, samplerRun_append, before]
  simp [samplerRun, handed, samplerRun_hunt_marks]

/-- As many bits are sent between the start and the stop as the format has (R30). -/
theorem sentBits_length (t : Settings) (b : Byte) :
    (dataBitsOf t b ++ (parityBit t.parity (dataBitsOf t b)).toList).length = dataAndParity t := by
  cases parity : t.parity <;> simp [dataBitsOf, parityBit, dataAndParity, parity]

theorem sentBits_take (t : Settings) (b : Byte) :
    (dataBitsOf t b ++ (parityBit t.parity (dataBitsOf t b)).toList).take t.dataBits = dataBitsOf t b := by
  rw [List.take_append_of_le_length (by simp [dataBitsOf]), List.take_of_length_le (by simp [dataBitsOf])]

/-- The parity bit sent agrees with the data bits sent (R30, R42). -/
theorem parityDisagrees_sent (t : Settings) (b : Byte) :
    parityDisagrees t (dataBitsOf t b ++ (parityBit t.parity (dataBitsOf t b)).toList) = false := by
  have length : (dataBitsOf t b).length = t.dataBits := by simp [dataBitsOf]
  rw [parityDisagrees, sentBits_take, List.getElem?_append_right (by omega), length, Nat.sub_self]
  cases parityBit t.parity (dataBitsOf t b) with
  | none => rfl
  | some b => cases b <;> rfl

/-- The byte assembled of the bits sent is the byte, with bit 7 clear at 7 data bits (R42). -/
theorem assembledByte_sent {t : Settings} (b : Byte) (format : t.dataBits = 7 ∨ t.dataBits = 8) :
    assembledByte t (dataBitsOf t b ++ (parityBit t.parity (dataBitsOf t b)).toList)
      = if t.dataBits = 7 then b &&& 0x7F else b := by
  refine BitVec.eq_of_getLsbD_eq fun k inside => ?_
  have held : k < t.dataBits →
      (dataBitsOf t b ++ (parityBit t.parity (dataBitsOf t b)).toList).getD k false = b.getLsbD k := fun h => by
    rw [List.getD_eq_getElem?_getD, List.getElem?_append_left (by simpa [dataBitsOf] using h)]
    simp [dataBitsOf, h]
  rw [assembledByte_getLsbD _ _ inside]
  rcases format with seven | eight
  · rw [if_pos seven, BitVec.getLsbD_and, show (0x7F : Byte).getLsbD k = decide (k < 7) by interval_cases k <;> rfl]
    by_cases low : k < 7
    · rw [held (by omega)]; simp [seven, low]
    · simp [seven, low]
  · rw [if_neg (by omega), held (by omega)]; simp [eight, inside]

end Frame

/-- Settles O30: the start bit, the bits up to the stop, and the stop bits, each by its samples. -/
theorem framesAreReceivedAsSent : Obligations.FramesAreReceivedAsSent := by
  intro t b format stopBits
  have stops : 1 ≤ t.stopBits := by omega
  obtain ⟨r₁, few₁, start⟩ := samplerRun_startBit stops
  obtain ⟨r₂, few₂, bits⟩ := samplerRun_bits stops (dataBitsOf t b ++ (parityBit t.parity (dataBitsOf t b)).toList)
    [] 0 r₁ (by rw [sentBits_length]; omega) few₁
  rw [sentBits_length, List.nil_append] at bits
  simp only [Nat.zero_add] at bits
  rw [sentBits_length, Nat.zero_add] at few₂
  have stop := samplerRun_stopBits stops (dataBitsOf t b ++ (parityBit t.parity (dataBitsOf t b)).toList) few₂
  rw [parityDisagrees_sent, assembledByte_sent b format] at stop
  rw [frameSamples, frameOf, List.flatMap_cons, List.flatMap_append,
    samplerRun_append_of start (samplerRun_append_of bits stop)]
  rfl


end Sys2Proof.Machine
end

section
/-! PROOF. The receive parser (chapter 4): in-line controls, the assembly of a record and its abandonment, the check and
the verdict, filing, the receive direct FIFO, and the line commands that read and clear them. -/

namespace Sys2Proof.Machine

open Sys2Proof

/-! ## The count of a character (R64) -/

/-- A character counted, a flawed one twice over (R64). -/
def State.countCharacter (s : State) (flawed : Bool) : State :=
  s.count fun c => { c with received := bump c.received, flawed := if flawed then bump c.flawed else c.flawed }

theorem State.countCharacter_eq (s : State) (flawed : Bool) : s.countCharacter flawed = { s with
    parser.counters.received := min 65535 (s.parser.counters.received + 1)
    parser.counters.flawed := if flawed then min 65535 (s.parser.counters.flawed + 1)
      else s.parser.counters.flawed } := by
  simp only [State.countCharacter, State.count, bump_eq_min]

theorem State.countCharacter_unflawed (s : State) : s.countCharacter false =
    { s with parser.counters.received := min 65535 (s.parser.counters.received + 1) } := by
  rw [State.countCharacter_eq]
  rfl

theorem State.takeCharacter_inLine {b : Byte} {flawed : Bool} {c : InLine} (control : inLine b flawed = some c)
    (s : State) : s.takeCharacter b flawed = (s.countCharacter flawed).takeInLine c := by
  simp only [State.takeCharacter, control, State.countCharacter]

theorem inLine_isSome_iff (b : Byte) (flawed : Bool) :
    (inLine b flawed).isSome = true ↔ flawed = false ∧ b ∈ [(0x11 : Byte), 0x13, 0x06, 0x15, 0x05] := by
  cases flawed with
  | true => simp [inLine]
  | false =>
    simp only [inLine, Bool.false_eq_true, if_false, List.mem_cons, List.not_mem_nil, or_false, true_and]
    split_ifs <;> simp_all

/-! ## What the scheduler's answers to an in-line control leave alone (R65) -/

@[simp] theorem State.leaveLine_parser (s : State) (h : SlotId) : (s.leaveLine h).parser = s.parser := by
  simp [State.leaveLine, State.clearingDropChain]

@[simp] theorem State.endTurn_parser (s : State) : s.endTurn.parser = s.parser := rfl

@[simp] theorem State.completeChain_parser (s : State) (h : SlotId) : (s.completeChain h).parser = s.parser := by
  unfold State.completeChain
  dsimp only
  split
  · split <;> simp
  · simp

@[simp] theorem State.failReply_parser (s : State) (h : SlotId) (o : EndOutcome) :
    (s.failReply h o).parser = s.parser := by
  simp [State.failReply]

@[simp] theorem State.acceptRecord_parser (s : State) (ct : ChainTurn) : (s.acceptRecord ct).parser = s.parser := by
  unfold State.acceptRecord
  split
  · rfl
  · simp

@[simp] theorem State.retryRecord_parser (s : State) (ct : ChainTurn) (o : EndOutcome) :
    (s.retryRecord ct o).parser = s.parser := by
  unfold State.retryRecord
  split
  · rfl
  · simp

@[simp] theorem State.endChainWait_parser (s : State) : s.endChainWait.parser = s.parser := by
  unfold State.endChainWait
  split <;> rfl

@[simp] theorem State.endChainWait_slots (s : State) : s.endChainWait.slots = s.slots := by
  unfold State.endChainWait
  split <;> rfl

theorem State.takeFlow_parser (s : State) (f : Flow) : (s.takeFlow f).parser = s.parser := by
  unfold State.takeFlow
  split <;> rfl

theorem State.takeEnq_parser (s : State) : s.takeEnq.parser = s.parser := by
  unfold State.takeEnq
  split <;> simp

/-- An in-line control reaches the parser by the stray counter alone (R65). -/
theorem State.takeInLine_parser (s : State) (c : InLine) :
    (s.takeInLine c).parser = s.parser
      ∨ (s.takeInLine c).parser = { s.parser with counters.stray := bump s.parser.counters.stray } := by
  cases c with
  | flow f => exact .inl (s.takeFlow_parser f)
  | enq => exact .inl s.takeEnq_parser
  | reply r =>
    simp only [State.takeInLine, State.takeReply]
    cases s.replyWait with
    | none => exact .inr rfl
    | some ct => cases r <;> exact .inl (by simp)

/-! ## The received and the flawed count (R64) -/

/-- The two counts that a character raises as it comes in. -/
def State.tally (s : State) : Nat × Nat := (s.parser.counters.received, s.parser.counters.flawed)

theorem State.takeInLine_tally (s : State) (c : InLine) : (s.takeInLine c).tally = s.tally := by
  rcases s.takeInLine_parser c with h | h <;> simp [State.tally, h]

theorem State.turnLocalFlow_tally (s : State) (f : Flow) : (s.turnLocalFlow f).tally = s.tally := rfl

theorem State.toSink_tally (s : State) (b : Byte) (flawed : Bool) : (s.toSink b flawed).tally = s.tally := by
  unfold State.toSink
  split_ifs
  · rfl
  · simp [State.tally]
  · dsimp only
    split <;> rfl

theorem State.abandon_tally (s : State) (x : ParserState) : (s.abandon x).tally = s.tally := rfl

theorem State.queueReply_tally (s : State) (r : Reply) : (s.queueReply r).tally = s.tally := by
  unfold State.queueReply
  split <;> rfl

theorem State.fileInto_tally (s : State) (i : SlotId) (r : Offered) (again : Bool) :
    (s.fileInto i r again).tally = s.tally := by
  unfold State.fileInto
  dsimp only
  split <;> split <;> simp [State.tally, State.count]

theorem State.file_tally (s : State) (r : Offered) : (s.file r).1.tally = s.tally := by
  unfold State.file
  split
  · exact s.fileInto_tally _ _ _
  · exact s.fileInto_tally _ _ _
  · dsimp only
    split <;> rfl
  · rfl

theorem State.verdict_tally (s : State) (route : Byte) (k : RecordClass) (text : List RxByte) (running byte : Byte)
    (flawed : Bool) : (s.verdict route k text running byte flawed).tally = s.tally := by
  cases k with
  | n => exact State.file_tally _ _
  | c =>
    simp only [State.verdict]
    split
    · exact (State.queueReply_tally _ _).trans (State.file_tally _ _)
    · exact State.queueReply_tally _ _

theorem State.takeData_tally (s : State) (b : Byte) (flawed : Bool) : (s.takeData b flawed).tally = s.tally := by
  unfold State.takeData
  split
  · split_ifs
    · exact s.toSink_tally b true
    · rfl
    · simp [State.tally]
    · exact s.toSink_tally b false
    · rfl
  · split_ifs <;> rfl
  · split
    · split_ifs <;> rfl
    · rfl
  · split_ifs <;> rfl
  · exact State.verdict_tally s _ _ _ _ _ _
  · split_ifs <;> rfl
  · rfl

/-- A character raises the two counts, whatever it is (R64). -/
theorem State.takeCharacter_tally (s : State) (b : Byte) (flawed : Bool) :
    (s.takeCharacter b flawed).tally = (s.countCharacter flawed).tally := by
  unfold State.takeCharacter
  dsimp only
  split
  · exact State.takeInLine_tally _ _
  · exact State.takeData_tally _ _ _

/-! ## In-line controls at the scheduler (R65, R98 to R102) -/

theorem State.takeReply_stray {s : State} (none : s.replyWait = none) (r : Reply) :
    s.takeReply r = { s with parser.counters.stray := min 65535 (s.parser.counters.stray + 1) } := by
  simp only [State.takeReply, none, bump_eq_min]

theorem State.takeReply_ack {s : State} {ct : ChainTurn} (wait : s.replyWait = some ct) :
    s.takeReply .ack = s.acceptRecord ct := by
  simp only [State.takeReply, wait]

theorem State.takeReply_nak {s : State} {ct : ChainTurn} (wait : s.replyWait = some ct) :
    s.takeReply .nak = s.retryRecord ct .refused := by
  simp only [State.takeReply, wait]

theorem State.acceptRecord_more {s : State} {ct : ChainTurn} {m : SlotId}
    (next : (s.slot ct.member).successor = some m) : s.acceptRecord ct =
      { s with sched.turn := .chain { ct with member := m, phase := .between false }, sched.replyTimer := none } := by
  simp only [State.acceptRecord, next]

theorem State.acceptRecord_last {s : State} {ct : ChainTurn} (last : (s.slot ct.member).successor = none) :
    s.acceptRecord ct = s.completeChain ct.head := by
  simp only [State.acceptRecord, last]

/-- A chain without a copy job is DONE with SENT (R99). -/
theorem State.completeChain_sent {s : State} {h : SlotId} (copy : (s.slot h).copy = false) : s.completeChain h =
    (s.endTurn.chainRequest h .send [.active] .done (some .sent)).leaveLine h := by
  simp [State.completeChain, copy]

/-- A chain with a copy job is COPYING, if its request is taken (R24, R99). -/
theorem State.completeChain_copying {s : State} {h : SlotId} (copy : (s.slot h).copy = true)
    (found : s.requestFinds h .send [.active] = true) : s.completeChain h =
      ((s.endTurn.chainRequest h .send [.active] .copying none).enterPrintQueue .copy h).leaveLine h := by
  have found' : s.endTurn.requestFinds h .send [.active] = true := found
  simp only [State.completeChain, copy, if_true, found']

theorem State.completeChain_discarded {s : State} {h : SlotId} (copy : (s.slot h).copy = true)
    (lost : ¬s.requestFinds h .send [.active] = true) : s.completeChain h = s.endTurn.leaveLine h := by
  have lost' : ¬s.endTurn.requestFinds h .send [.active] = true := lost
  simp only [State.completeChain, copy, if_true, if_neg lost']

/-- An active head is one its path's request finds (R24). -/
theorem State.requestFinds_active_iff (s : State) (h : SlotId) (k : Kind) : s.requestFinds h k [.active] = true ↔
    (s.slot h).chainHead = some h ∧ (s.slot h).kind = some k ∧ (s.slot h).state = .active := by
  rw [State.requestFinds_iff, List.mem_singleton]

theorem State.retryRecord_again {s : State} {ct : ChainTurn} {o : EndOutcome}
    (left : (s.slot ct.member).attempts < s.settings.attemptLimit) : s.retryRecord ct o =
      { s with sched.turn := .chain { ct with phase := .between false }, sched.replyTimer := none } := by
  rw [State.retryRecord, if_pos left]

theorem State.retryRecord_failed {s : State} {ct : ChainTurn} {o : EndOutcome}
    (used : s.settings.attemptLimit ≤ (s.slot ct.member).attempts) : s.retryRecord ct o = s.failReply ct.head o := by
  rw [State.retryRecord, if_neg (Nat.not_lt.2 used)]

theorem State.takeFlow_slots (s : State) (f : Flow) : (s.takeFlow f).slots = s.slots := by
  unfold State.takeFlow
  split <;> rfl

theorem State.takeFlow_xoff_sched (s : State) : (s.takeFlow .xoff).sched = { s.sched with
    remoteFlow := .xoff
    flowTimer := if s.sched.remoteFlow = .xoff then s.sched.flowTimer
      else if s.settings.flowLimit = 0 then none else some (s.settings.flowLimit * 1000000) } := by
  unfold State.takeFlow
  split
  case isTrue same => rw [← same]
  case isFalse other => by_cases limit : s.settings.flowLimit = 0 <;> simp [limit, seconds]

theorem State.takeFlow_xon_sched (s : State) : (s.takeFlow .xon).sched = { s.sched with
    remoteFlow := .xon, flowTimer := if s.sched.remoteFlow = .xoff then none else s.sched.flowTimer } := by
  unfold State.takeFlow
  split
  case isTrue same => rw [if_neg (by rw [same]; decide), ← same]
  case isFalse other =>
    have stopped : s.sched.remoteFlow = .xoff := by cases h : s.sched.remoteFlow <;> simp_all
    simp [stopped]

theorem State.takeEnq_slots (s : State) : s.takeEnq.slots = s.slots := by
  unfold State.takeEnq
  split <;> simp

theorem State.takeEnq_pending (s : State) : s.takeEnq.sched.answerbackPending = true := by
  unfold State.takeEnq
  split
  case isTrue h => exact h
  case isFalse => unfold State.endChainWait; split <;> rfl

/-- Settles O32: the count first, then the control's answer by case. -/
theorem inLineControls : Obligations.InLineControls := by
  intro s b flawed t
  have tally : t.tally = (s.countCharacter flawed).tally := s.takeCharacter_tally b flawed
  have control : ∀ {c}, flawed = false → inLine b false = some c → t = (s.countCharacter false).takeInLine c := by
    intro c unflawed h
    subst unflawed
    exact State.takeCharacter_inLine h s
  refine ⟨?_, ?_, fun unflawed isControl => ?_, fun unflawed xoff => ?_, fun unflawed xon => ?_, fun unflawed enq => ?_,
    fun unflawed reply none => ?_, fun ct unflawed wait => ?_⟩
  · rw [State.countCharacter_eq] at tally
    exact congrArg Prod.fst tally
  · rw [State.countCharacter_eq] at tally
    exact congrArg Prod.snd tally
  · obtain ⟨c, is⟩ := Option.isSome_iff_exists.1 ((inLine_isSome_iff b false).2 ⟨rfl, isControl⟩)
    rw [control unflawed is]
    rcases (s.countCharacter false).takeInLine_parser c with p | p <;> rw [p] <;> exact ⟨rfl, rfl, rfl, rfl, rfl⟩
  · rw [control (c := .flow .xoff) unflawed (by rw [xoff]; rfl)]
    exact ⟨State.takeFlow_slots _ _, State.takeFlow_xoff_sched _⟩
  · rw [control (c := .flow .xon) unflawed (by rw [xon]; rfl)]
    exact ⟨State.takeFlow_slots _ _, State.takeFlow_xon_sched _⟩
  · rw [control (c := .enq) unflawed (by rw [enq]; rfl)]
    refine ⟨State.takeEnq_slots _, State.takeEnq_pending _, fun owed => ?_, fun h w fresh wait => ?_⟩
    · have owed' : (s.countCharacter false).sched.answerbackPending = true := owed
      simp only [State.takeInLine, State.takeEnq, owed', if_true]
      rfl
    · have fresh' : (s.countCharacter false).sched.answerbackPending = false := fresh
      have wait' : (s.countCharacter false).sched.holdWait = some ⟨.chain h, w⟩ := wait
      simp [State.takeInLine, State.takeEnq, fresh', State.endChainWait, wait']
  · have stray : t = { s.countCharacter false with
        parser.counters.stray := min 65535 ((s.countCharacter false).parser.counters.stray + 1) } := by
      rcases reply with ack | nak
      · rw [control (c := .reply .ack) unflawed (by rw [ack]; rfl)]
        exact State.takeReply_stray (s := s.countCharacter false) none .ack
      · rw [control (c := .reply .nak) unflawed (by rw [nak]; rfl)]
        exact State.takeReply_stray (s := s.countCharacter false) none .nak
    rw [stray]
    exact ⟨rfl, rfl, rfl⟩
  · intro x h s1 ended active
    refine ⟨fun ack => ?_, fun nak => ?_⟩
    · rw [control (c := .reply .ack) unflawed (by rw [ack]; rfl), State.countCharacter_unflawed]
      show (∀ m, _ → State.takeReply s1 .ack = _) ∧ _
      rw [State.takeInLine, State.takeReply_ack (s := s1) wait]
      refine ⟨fun m next => State.acceptRecord_more (s := s1) next, fun last plain => ?_, fun last copy found => ?_,
        fun last copy lost => ?_⟩
      · rw [State.acceptRecord_last (s := s1) last, State.completeChain_sent (s := s1) plain]
        rfl
      · rw [State.acceptRecord_last (s := s1) last,
          State.completeChain_copying (s := s1) copy ((State.requestFinds_active_iff s1 h .send).2 found)]
        rfl
      · rw [State.acceptRecord_last (s := s1) last,
          State.completeChain_discarded (s := s1) copy (lost ∘ (State.requestFinds_active_iff s1 h .send).1)]
        rfl
    · rw [control (c := .reply .nak) unflawed (by rw [nak]; rfl), State.countCharacter_unflawed]
      show (_ → State.takeReply s1 .nak = _) ∧ (_ → State.takeReply s1 .nak = _)
      rw [State.takeReply_nak (s := s1) wait]
      exact ⟨fun left => State.retryRecord_again (s := s1) left, fun used => State.retryRecord_failed (s := s1) used⟩

/-! ## Characters that are no in-line control, by the parser's state (R66 to R71) -/

theorem State.takeCharacter_other {b : Byte} {flawed : Bool}
    (other : ¬(flawed = false ∧ b ∈ [(0x11 : Byte), 0x13, 0x06, 0x15, 0x05])) (s : State) :
    s.takeCharacter b flawed = (s.countCharacter flawed).takeData b flawed :=
  State.takeCharacter_data other s

theorem State.abandon_eq (s : State) (x : ParserState) : s.abandon x = { s with
    parser.state := x, parser.counters.discarded := min 65535 (s.parser.counters.discarded + 1) } := by
  rw [State.abandon, bump_eq_min]

theorem openText_iff (b : Byte) : openText b = true ↔
    (0x20 ≤ b.toNat ∧ b.toNat ≤ 0x7E) ∨ b ∈ [(0x09 : Byte), 0x08, 0x0A, 0x0C, 0x0D] := by
  simp [openText, BitVec.le_def, or_assoc]

theorem recordText_iff (b : Byte) (flawed : Bool) : recordText b flawed = true ↔
    flawed = true ∨ (0x20 ≤ b.toNat ∧ b.toNat ≤ 0x7E) ∨ b = 0x09 := by
  simp [recordText, BitVec.le_def, or_assoc]

theorem isRouteCode_iff (b : Byte) : isRouteCode b = true ↔
    (0x41 ≤ b.toNat ∧ b.toNat ≤ 0x5A) ∨ (0x30 ≤ b.toNat ∧ b.toNat ≤ 0x39) := by
  simp [isRouteCode, BitVec.le_def]

theorem classArg_eq_none {b : Byte} (c : b ≠ 0x43) (n : b ≠ 0x4E) : classArg b = none := by
  rw [classArg, if_neg c, if_neg n]

section Data

variable {s : State} {b : Byte} {flawed : Bool}

theorem State.takeData_text (state : s.parser.state = .text) : s.takeData b flawed =
    if flawed then s.toSink b true
    else if b = 0x01 then { s with parser.state := .route }
    else if b = 0x07 then s.beep
    else if openText b then s.toSink b false
    else s := by
  simp only [State.takeData, state]

theorem State.takeData_route (state : s.parser.state = .route) : s.takeData b flawed =
    if !flawed && isRouteCode (b &&& 0x7F) then { s with parser.state := .cls (b &&& 0x7F) }
    else s.abandon .text := by
  simp only [State.takeData, state]

theorem State.takeData_class {route : Byte} {k : RecordClass} (state : s.parser.state = .cls route)
    (arg : classArg b = some k) : s.takeData b false =
      { s with parser.state := .body route k [] (route ^^^ b) } := by
  simp only [State.takeData, state, arg, Bool.false_eq_true, if_false]

theorem State.takeData_noClass {route : Byte} (state : s.parser.state = .cls route)
    (bad : flawed = true ∨ classArg b = none) : s.takeData b flawed = s.abandon .text := by
  simp only [State.takeData, state]
  split
  case h_1 k arg => rw [if_pos (bad.resolve_right (by simp [arg]))]
  case h_2 => rfl

theorem State.takeData_body {route : Byte} {k : RecordClass} {text : List RxByte} {running : Byte}
    (state : s.parser.state = .body route k text running) : s.takeData b flawed =
    if recordText b flawed then
      if text.length < 80 then { s with parser.state := .body route k (text ++ [⟨b, flawed⟩]) (running ^^^ b) }
      else s.abandon (.discard false)
    else if b = 0x03 then { s with parser.state := .check route k text running }
    else if b = 0x01 then s.abandon .route
    else if b = 0x18 then s.abandon .text
    else s.abandon (.discard false) := by
  simp only [State.takeData, state]

theorem State.takeData_check {route : Byte} {k : RecordClass} {text : List RxByte} {running : Byte}
    (state : s.parser.state = .check route k text running) :
    s.takeData b flawed = s.verdict route k text running b flawed := by
  simp only [State.takeData, state]

theorem State.takeData_discard (state : s.parser.state = .discard false) : s.takeData b flawed =
    if !flawed && b = 0x03 then { s with parser.state := .discard true }
    else if !flawed && b = 0x01 then { s with parser.state := .route }
    else s := by
  simp only [State.takeData, state]

theorem State.takeData_discardDue (state : s.parser.state = .discard true) :
    s.takeData b flawed = { s with parser.state := .text } := by
  simp only [State.takeData, state]

end Data

theorem ParserState.assembling_iff (x : ParserState) :
    x.assembling = true ↔ x ≠ .text ∧ ∀ due, x ≠ .discard due := by
  cases x <;> simp [ParserState.assembling]

/-- The parser's state stands while a byte goes to the sink (R66). -/
theorem State.toSink_parserState (s : State) (b : Byte) (flawed : Bool) :
    (s.toSink b flawed).parser.state = s.parser.state := by
  unfold State.toSink
  split_ifs
  · rfl
  · simp
  · dsimp only
    split <;> rfl

theorem State.toSink_discarded (s : State) (b : Byte) (flawed : Bool) :
    (s.toSink b flawed).parser.counters.discarded = s.parser.counters.discarded := by
  unfold State.toSink
  split_ifs
  · rfl
  · simp
  · dsimp only
    split <;> rfl

theorem State.breakRecord_assembling {s : State} (assembling : s.parser.state.assembling = true) :
    s.breakRecord = s.abandon .text := by
  rw [State.breakRecord, if_pos assembling]

theorem State.breakRecord_other {s : State} (other : ¬s.parser.state.assembling = true) :
    s.breakRecord = { s with parser.state := .text } := by
  rw [State.breakRecord, if_neg other]

/-- In TEXT a gap or a break abandons nothing (R70). -/
theorem State.breakRecord_text {s : State} (text : s.parser.state = .text) : s.breakRecord = s := by
  rw [State.breakRecord_other (by simp [text, ParserState.assembling]), ← text]

/-- A gap that abandons a record counts it after its SUB has gone to the sink (R70, R71). -/
theorem State.takeGap_assembling {s : State} (assembling : s.parser.state.assembling = true) :
    s.takeGap = { s.toSink 0x1A true with
      parser.state := .text, parser.counters.discarded := min 65535 (s.parser.counters.discarded + 1) } := by
  rw [State.takeGap, State.breakRecord_assembling (by rw [State.toSink_parserState]; exact assembling),
    State.abandon_eq, State.toSink_discarded]

theorem State.takeBreak_assembling {s : State} (assembling : s.parser.state.assembling = true) :
    s.takeBreak = { s with
      parser.state := .text
      parser.counters.discarded := min 65535 (s.parser.counters.discarded + 1) }.alertBoth .breakReceived := by
  rw [State.takeBreak, State.breakRecord_assembling assembling, State.abandon_eq]

/-- Settles O33: each state's equation read at the case of the character; then the gap and the break. -/
theorem discardSkipsTheRecord : Obligations.DiscardSkipsTheRecord := by
  refine ⟨fun s b flawed other => ?_, fun s => ⟨fun text => ?_, fun notText notDiscard => ?_⟩, fun s due discard => ?_⟩
  · intro t counted entered abandoned printable layout
    have same : t = counted.takeData b flawed := by
      show s.takeCharacter b flawed = _
      rw [State.takeCharacter_other other, State.countCharacter_eq]
    have gone : ∀ x, counted.abandon x = abandoned x := counted.abandon_eq
    rw [same]
    refine ⟨fun state => ?_, fun state => ?_, fun route state => ?_, fun route k text running state => ?_⟩
    · rw [State.takeData_text (s := counted) state]
      refine ⟨fun h => by rw [if_pos h], fun h soh => ?_, fun h bel => ?_, fun h text => ?_,
        fun h soh bel plain mark => ?_⟩
      · rw [if_neg (by simp [h]), if_pos soh]
      · rw [if_neg (by simp [h]), if_neg (by rw [bel]; decide), if_pos bel]
      · have soh : b ≠ 0x01 := by rintro rfl; revert text; simp [printable, layout]
        have bel : b ≠ 0x07 := by rintro rfl; revert text; simp [printable, layout]
        rw [if_neg (by simp [h]), if_neg soh, if_neg bel, if_pos ((openText_iff b).2 text)]
      · rw [if_neg (by simp [h]), if_neg soh, if_neg bel, if_neg
          fun open' => ((openText_iff b).1 open').elim plain mark]
    · intro code routed
      have taken : (!flawed && isRouteCode code) = true ↔ routed := by
        rw [Bool.and_eq_true, Bool.not_eq_true', isRouteCode_iff]
      rw [State.takeData_route (s := counted) state]
      exact ⟨fun h => by rw [if_pos (taken.2 h)], fun h => by rw [if_neg (h ∘ taken.1), gone]⟩
    · refine ⟨fun h c => ?_, fun h n => ?_, fun bad => ?_⟩
      · rw [h, State.takeData_class (s := counted) state (k := .c) (by rw [c]; rfl)]
      · rw [h, State.takeData_class (s := counted) state (k := .n) (by rw [n]; rfl)]
      · rw [State.takeData_noClass (s := counted) state (bad.imp_right fun h => classArg_eq_none h.1 h.2), gone]
    · intro stored
      have kept : recordText b flawed = true ↔ stored := recordText_iff b flawed
      rw [State.takeData_body (s := counted) state]
      refine ⟨fun h short => ?_, fun h full => ?_, fun h etx => ?_, fun h soh => ?_, fun h can => ?_, fun h none => ?_⟩
      · rw [if_pos (kept.2 h), if_pos short]
      · rw [if_pos (kept.2 h), if_neg (by omega), gone]
      · rw [if_neg (h ∘ kept.1), if_pos etx]
      · rw [if_neg (h ∘ kept.1), if_neg (by rw [soh]; decide), if_pos soh, gone]
      · rw [if_neg (h ∘ kept.1), if_neg (by rw [can]; decide), if_neg (by rw [can]; decide), if_pos can, gone]
      · simp only [List.mem_cons, List.not_mem_nil, or_false, not_or] at none
        obtain ⟨etx, soh, can⟩ := none
        rw [if_neg (h ∘ kept.1), if_neg etx, if_neg soh, if_neg can, gone]
  · exact ⟨State.breakRecord_text (by rw [State.toSink_parserState]; exact text),
      by rw [State.takeBreak, State.breakRecord_text text]⟩
  · have assembling := (ParserState.assembling_iff s.parser.state).2 ⟨notText, notDiscard⟩
    exact ⟨State.takeGap_assembling assembling, State.takeBreak_assembling assembling⟩
  · have idle : ¬s.parser.state.assembling = true := by simp [discard, ParserState.assembling]
    refine ⟨fun b flawed => ?_, ?_, ?_, ?_, ?_⟩
    · intro t counted
      refine ⟨fun control => ?_, fun other => ?_⟩
      · obtain ⟨c, is⟩ := Option.isSome_iff_exists.1 ((inLine_isSome_iff b flawed).2 control)
        show (s.takeCharacter b flawed).parser.state = _
        rw [State.takeCharacter_inLine is, ← discard]
        rcases (s.countCharacter flawed).takeInLine_parser c with h | h <;> rw [h] <;> rfl
      · have same : t = { s with parser := counted s.parser.state }.takeData b flawed := by
          show s.takeCharacter b flawed = _
          rw [State.takeCharacter_other other, State.countCharacter_eq]
        have state : counted s.parser.state = counted (.discard due) := congrArg counted discard
        rw [same, state]
        refine ⟨fun skip h etx => ?_, fun skip h soh => ?_, fun skip rest => ?_, fun last => ?_⟩
        · subst skip h etx
          rw [State.takeData_discard (s := { s with parser := counted (.discard false) }) rfl]
          rfl
        · subst skip h soh
          rw [State.takeData_discard (s := { s with parser := counted (.discard false) }) rfl]
          rfl
        · subst skip
          rw [State.takeData_discard (s := { s with parser := counted (.discard false) }) rfl]
          rcases rest with h | ⟨etx, soh⟩
          · simp [h]
          · rw [if_neg (by rw [Bool.and_eq_true, decide_eq_true_iff]; exact fun h => etx h.2),
              if_neg (by rw [Bool.and_eq_true, decide_eq_true_iff]; exact fun h => soh h.2)]
        · subst last
          rw [State.takeData_discardDue (s := { s with parser := counted (.discard true) }) rfl]
    · rw [State.takeGap, State.breakRecord_other (by rw [State.toSink_parserState]; exact idle)]
    · rw [State.takeBreak, State.breakRecord_other idle]
    · simp [State.enterIdle]
    · simp [State.enterIdle, if_neg idle]

/-! ## The verdict (R72 to R74) -/

theorem State.queueReply_eq (s : State) (r : Reply) : s.queueReply r = { s with
    parser.replies := if s.parser.replies.length < 4 then s.parser.replies ++ [r] else s.parser.replies } := by
  unfold State.queueReply
  split <;> rfl

section Verdict

variable {s : State} {route : Byte} {text : List RxByte} {running byte : Byte} {flawed : Bool}

theorem State.verdict_n : s.verdict route .n text running byte flawed =
    ({ s with parser.state := .text }.file ⟨route, .n, !checkGood running byte flawed, text⟩).1 := rfl

theorem State.verdict_filed (good : checkGood running byte flawed = true) (unflawed : ∀ x ∈ text, x.flawed = false) :
    s.verdict route .c text running byte flawed =
      ({ s with parser.state := .text }.file ⟨route, .c, false, text⟩).1.queueReply
        (if ({ s with parser.state := .text }.file ⟨route, .c, false, text⟩).2 then .ack else .nak) := by
  have clean : text.any (·.flawed) = false := by simpa using unflawed
  simp only [State.verdict, good, clean, Bool.not_false, Bool.and_self, if_true]

theorem State.verdict_rejected (bad : checkGood running byte flawed = false ∨ ∃ x ∈ text, x.flawed = true) :
    s.verdict route .c text running byte flawed = ({ s with
      parser.state := .text
      parser.counters.discarded := min 65535 (s.parser.counters.discarded + 1) } : State).queueReply .nak := by
  have refused : ¬(checkGood running byte flawed && !text.any (·.flawed)) = true := by
    rcases bad with bad | ⟨x, mem, flaw⟩
    · simp [bad]
    · simp only [Bool.and_eq_true, Bool.not_eq_true', List.any_eq_false, not_and, not_forall]
      exact fun _ => ⟨x, mem, by simp [flaw]⟩
  simp only [State.verdict, if_neg refused, State.count, bump_eq_min]

end Verdict

/-- Settles O34: the verdict by class, and the gap and the break as for every record under assembly. -/
theorem checkByteDecides : Obligations.CheckByteDecides := by
  intro s route k text running state
  have assembling : s.parser.state.assembling = true := by rw [state]; rfl
  refine ⟨fun b flawed other => ?_, by rw [State.takeGap_assembling assembling],
    by rw [State.takeBreak_assembling assembling]; simp, by rw [State.takeBreak_assembling assembling]; simp⟩
  intro good s1 reply t
  have same : t = (s.countCharacter flawed).verdict route k text running b flawed := by
    show s.takeCharacter b flawed = _
    rw [State.takeCharacter_other other, State.takeData_check (s := s.countCharacter flawed) state]
  have check : checkGood running b flawed = good := rfl
  have replied : ∀ (u : State) r, u.queueReply r = reply u r := State.queueReply_eq
  have entered : { s.countCharacter flawed with parser.state := .text } = s1 := by
    rw [State.countCharacter_eq]
  rw [same]
  refine ⟨fun n => ?_, fun c is clean => ?_, fun c bad => ?_⟩
  · rw [n, State.verdict_n, entered, check]
  · intro filed
    rw [c, State.verdict_filed (check.trans is) clean, entered, replied]
    show reply filed.1 (if filed.2 then .ack else .nak) = _
    split <;> rfl
  · have discarded : (s.countCharacter flawed).parser.counters.discarded = s.parser.counters.discarded := rfl
    rw [c, State.verdict_rejected (check ▸ bad), replied, discarded]
    show reply { { s.countCharacter flawed with parser.state := .text } with
      parser.counters.discarded := min 65535 (s.parser.counters.discarded + 1) } .nak = _
    rw [entered]

/-! ## Filing (R26, R75, R76) -/

theorem Slot.matches_iff (x : Slot) (route : Byte) : x.matches route = true ↔
    (x.kind = some .receive ∧ (x.route = route ∨ x.route = 0x2A)) ∧ (x.state = .armed ∨ x.state = .pending) := by
  show _ ↔ (x.kind = some .receive ∧ (x.route = route ∨ x.route = routeAny)) ∧ _
  simp only [Slot.matches, Bool.and_eq_true, Bool.or_eq_true, decide_eq_true_eq]
  tauto

theorem Slot.replaceable_iff (x : Slot) :
    x.replaceable = true ↔ x.state = .pending ∧ x.protect = false ∧ x.job = .absent := by
  simp [Slot.replaceable, and_assoc]

/-- An ARMED slot of the route passes the first search. -/
theorem Slot.matches_armed_iff (x : Slot) (route : Byte) : (x.matches route && decide (x.state = .armed)) = true ↔
    (x.kind = some .receive ∧ (x.route = route ∨ x.route = 0x2A)) ∧ x.state = .armed := by
  rw [Bool.and_eq_true, Slot.matches_iff, decide_eq_true_iff]
  tauto

/-- A PENDING slot of the route that may be replaced passes the second search. -/
theorem Slot.matches_replaceable_iff (x : Slot) (route : Byte) : (x.matches route && x.replaceable) = true ↔
    (x.kind = some .receive ∧ (x.route = route ∨ x.route = 0x2A)) ∧ x.state = .pending ∧ x.protect = false
      ∧ x.job = .absent := by
  rw [Bool.and_eq_true, Slot.matches_iff, Slot.replaceable_iff]
  tauto

section Search

variable {s : State} {route : Byte} {i : SlotId}

theorem State.fileSearch_eq_armed (passes : ((s.slot i).matches route && decide ((s.slot i).state = .armed)) = true)
    (lowest : ∀ j < i, ((s.slot j).matches route && decide ((s.slot j).state = .armed)) = false) :
    s.fileSearch route = .armed i := by
  obtain ⟨rest, found⟩ := State.slotsWhere_eq_cons
    (f := fun _ x => x.matches route && decide (x.state = .armed)) passes lowest
  simp only [State.fileSearch, found]

theorem State.fileSearch_eq_replace
    (noneArmed : ∀ j, ((s.slot j).matches route && decide ((s.slot j).state = .armed)) = false)
    (passes : ((s.slot i).matches route && (s.slot i).replaceable) = true)
    (lowest : ∀ j < i, ((s.slot j).matches route && (s.slot j).replaceable) = false) :
    s.fileSearch route = .replace i := by
  have first := State.slotsWhere_eq_nil (f := fun _ x => x.matches route && decide (x.state = .armed)) noneArmed
  obtain ⟨rest, found⟩ := State.slotsWhere_eq_cons (f := fun _ x => x.matches route && x.replaceable) passes lowest
  simp only [State.fileSearch, first, found]

theorem State.fileSearch_eq_dropped
    (noneArmed : ∀ j, ((s.slot j).matches route && decide ((s.slot j).state = .armed)) = false)
    (noneReplaced : ∀ j, ((s.slot j).matches route && (s.slot j).replaceable) = false)
    (passes : (s.slot i).matches route = true) (lowest : ∀ j < i, (s.slot j).matches route = false) :
    s.fileSearch route = .dropped i := by
  have first := State.slotsWhere_eq_nil (f := fun _ x => x.matches route && decide (x.state = .armed)) noneArmed
  have second := State.slotsWhere_eq_nil (f := fun _ x => x.matches route && x.replaceable) noneReplaced
  obtain ⟨rest, found⟩ := State.slotsWhere_eq_cons (f := fun _ x => x.matches route) passes lowest
  simp only [State.fileSearch, first, second, found]

theorem State.fileSearch_eq_unrouted (noneMatches : ∀ j, (s.slot j).matches route = false) :
    s.fileSearch route = .unrouted := by
  have first := State.slotsWhere_eq_nil (s := s) (f := fun _ x => x.matches route && decide (x.state = .armed))
    fun j => by simp [noneMatches j]
  have second := State.slotsWhere_eq_nil (s := s) (f := fun _ x => x.matches route && x.replaceable)
    fun j => by simp [noneMatches j]
  have third := State.slotsWhere_eq_nil (f := fun _ x => x.matches route) noneMatches
  simp only [State.fileSearch, first, second, third]

end Search

/-- Whether the byte at a position of a text is flawed. -/
def flawedAt (text : List RxByte) (q : Nat) : Bool := ((text[q]?).map (·.flawed)).getD false

/-- A flaw mark set at a position whose byte is flawed (R26). -/
def flawStep (text : List RxByte) (acc : BitVec 80) (i : Nat) : BitVec 80 :=
  if flawedAt text i then acc ||| (1#80 <<< i) else acc

theorem flawSet_eq (text : List RxByte) : flawSet text = (List.range 80).foldl (flawStep text) 0 := by
  unfold flawSet
  congr 1
  funext acc i
  unfold flawStep flawedAt
  cases text[i]? <;> rfl

theorem flawStep_getLsbD (text : List RxByte) (acc : BitVec 80) (i : Nat) {q : Nat} (inside : q < 80) :
    (flawStep text acc i).getLsbD q = (acc.getLsbD q || (decide (q = i) && flawedAt text q)) := by
  have bit : (1#80 <<< i).getLsbD q = decide (q = i) := by
    rw [BitVec.getLsbD_shiftLeft, BitVec.getLsbD_one]
    by_cases same : q = i
    · subst same
      simp [inside]
    · simp [same, inside]; omega
  unfold flawStep
  by_cases same : q = i
  · subst same
    cases flaw : flawedAt text q <;> simp [bit]
  · cases flaw : flawedAt text i <;> simp [bit, same]

theorem flawFold_getLsbD (text : List RxByte) (l : List Nat) (acc : BitVec 80) {q : Nat} (inside : q < 80) :
    (l.foldl (flawStep text) acc).getLsbD q = (acc.getLsbD q || (decide (q ∈ l) && flawedAt text q)) := by
  induction l generalizing acc with
  | nil => simp
  | cons i l ih =>
    rw [List.foldl_cons, ih, flawStep_getLsbD text acc i inside]
    cases flawedAt text q <;> simp [Bool.or_assoc]

/-- The flaw marks of a record's text are those of its bytes (R26). -/
theorem flawSet_getLsbD (text : List RxByte) {q : Nat} (inside : q < 80) :
    (flawSet text).getLsbD q = flawedAt text q := by
  rw [flawSet_eq, flawFold_getLsbD text _ _ inside]
  simp [inside]

theorem filedText_eq (old : Vector Byte 80) (text : List RxByte) : filedText old text =
    Vector.ofFn fun q : Fin 80 => ((text[q.val]?).map (·.byte)).getD old[q] := by
  unfold filedText
  congr 1
  funext q
  cases text[q.val]? <;> rfl

/-- A slot as a record written into it leaves it (R26). -/
def Slot.filed (x : Slot) (r : Offered) (again : Bool) : Slot :=
  { x with
    state := .pending
    text := filedText x.text r.text
    length := r.text.length
    flaws := flawSet r.text
    record := some ⟨r.route, r.cls, r.bad, again⟩
    job := if x.autoprint then .waiting else x.job }

section Into

variable (s : State) (i : SlotId) (r : Offered) (again : Bool)

theorem State.fileInto_slots : (s.fileInto i r again).slots = s.slots.set i ((s.slot i).filed r again) := by
  unfold State.fileInto
  dsimp only
  cases auto : (s.slot i).autoprint <;> split <;> simp [State.count, State.setSlot, Slot.filed, auto]

theorem State.fileInto_parser : (s.fileInto i r again).parser =
    { s.parser with counters.filed := min 65535 (s.parser.counters.filed + 1) } := by
  unfold State.fileInto
  dsimp only
  split <;> split <;> simp [State.count, bump_eq_min]

variable {s i} {p : Port}

theorem State.fileInto_events (owner : (s.slot i).owner = some p) : (s.fileInto i r again).events =
    (s.raise p (if again then .lost .overwritten i r.route else .received i r.route)).events := by
  unfold State.fileInto
  dsimp only
  rw [owner]
  cases (s.slot i).autoprint <;> simp [State.raise, State.count, State.setSlot, State.enterPrintQueue, State.slot]

theorem State.fileInto_queue (owner : (s.slot i).owner = some p) : (s.fileInto i r again).arb.queue =
    s.arb.queue ++ (if (s.slot i).autoprint then [⟨.auto, i, p, (s.slot i).priority, s.arb.issued + 1⟩] else []) := by
  unfold State.fileInto
  dsimp only
  rw [owner]
  cases auto : (s.slot i).autoprint
  · simp [State.count, State.setSlot]
  · simp [State.count, State.enterPrintQueue]

end Into

/-- What filing a record in a slot leaves (R26). -/
theorem State.file_into {s : State} {r : Offered} {i : SlotId} {again : Bool}
    (found : s.fileSearch r.route = if again then .replace i else .armed i) :
    let t := (s.file r).1
    (s.file r).2 = true
    ∧ t.slots = s.slots.set i { s.slot i with
        state := .pending
        text := Vector.ofFn fun q : Fin 80 => ((r.text[q.val]?).map (·.byte)).getD (s.slot i).text[q]
        length := r.text.length
        flaws := (t.slot i).flaws
        record := some ⟨r.route, r.cls, r.bad, again⟩
        job := if (s.slot i).autoprint then .waiting else (s.slot i).job }
    ∧ (∀ q < 80, (t.slot i).flaws.getLsbD q = ((r.text[q]?).map (·.flawed)).getD false)
    ∧ t.parser = { s.parser with counters.filed := min 65535 (s.parser.counters.filed + 1) }
    ∧ (∀ p, (s.slot i).owner = some p → t.events =
        (s.raise p (if again then .lost .overwritten i r.route else .received i r.route)).events
      ∧ t.arb.queue = s.arb.queue ++
        (if (s.slot i).autoprint then [⟨.auto, i, p, (s.slot i).priority, s.arb.issued + 1⟩] else [])) := by
  have filed : s.file r = (s.fileInto i r again, true) := by
    cases again <;> simp only [State.file, found, if_true, if_false, Bool.false_eq_true]
  have slot : (s.fileInto i r again).slot i = (s.slot i).filed r again := by
    rw [State.slot, State.fileInto_slots]
    simp
  rw [filed]
  refine ⟨rfl, ?_, fun q inside => ?_, s.fileInto_parser i r again, fun p owner =>
    ⟨s.fileInto_events r again owner, s.fileInto_queue r again owner⟩⟩
  · rw [slot, State.fileInto_slots, Slot.filed, filedText_eq]
  · rw [slot]
    exact flawSet_getLsbD r.text inside

/-- Settles O35: the search decides, and the slot it finds takes the record. -/
theorem recordsAreFiled : Obligations.RecordsAreFiled := by
  intro s r route armed replaced matched filed
  have armedIff : ∀ j, ((s.slot j).matches r.route && decide ((s.slot j).state = .armed)) = true ↔ armed j :=
    fun j => (s.slot j).matches_armed_iff r.route
  have replacedIff : ∀ j, ((s.slot j).matches r.route && (s.slot j).replaceable) = true ↔ replaced j :=
    fun j => (s.slot j).matches_replaceable_iff r.route
  have matchedIff : ∀ j, (s.slot j).matches r.route = true ↔ matched j := fun j => (s.slot j).matches_iff r.route
  have notArmed : ∀ j, ¬armed j → ((s.slot j).matches r.route && decide ((s.slot j).state = .armed)) = false :=
    fun j h => Bool.eq_false_iff.2 (h ∘ (armedIff j).1)
  have notReplaced : ∀ j, ¬replaced j → ((s.slot j).matches r.route && (s.slot j).replaceable) = false :=
    fun j h => Bool.eq_false_iff.2 (h ∘ (replacedIff j).1)
  have notMatched : ∀ j, ¬matched j → (s.slot j).matches r.route = false :=
    fun j h => Bool.eq_false_iff.2 (h ∘ (matchedIff j).1)
  refine ⟨fun i is lowest => ?_, fun i none is lowest => ?_, fun i p none is lowest owner => ?_, fun none => ?_⟩
  · exact State.file_into (again := false)
      (State.fileSearch_eq_armed ((armedIff i).2 is) fun j below => notArmed j (lowest j below))
  · exact State.file_into (again := true)
      (State.fileSearch_eq_replace (fun j => notArmed j (none j)) ((replacedIff i).2 is)
        fun j below => notReplaced j (lowest j below))
  · have found := State.fileSearch_eq_dropped (fun j => notArmed j (none j).1) (fun j => notReplaced j (none j).2)
      ((matchedIff i).2 is) fun j below => notMatched j (lowest j below)
    simp only [State.file, found, owner, State.count, bump_eq_min]
  · have found := State.fileSearch_eq_unrouted fun j => notMatched j (none j)
    simp only [State.file, found, State.count, bump_eq_min]

/-! ## A record as sent, received (R96 against R67, R68, R72 and R73) -/

/-- A state while a record comes in: the parser's own, and so many characters received. -/
def State.receiving (s : State) (x : ParserState) (n : Nat) : State :=
  { s with parser.state := x, parser.counters.received := n }

/-- A byte of 0x20 or more below DEL is no in-line control, and no more are the controls of a record. -/
theorem not_inLine_of {b : Byte} (plain : 0x20 ≤ b.toNat ∨ b ∈ [(0x01 : Byte), 0x03, 0x09]) :
    ¬(false = false ∧ b ∈ [(0x11 : Byte), 0x13, 0x06, 0x15, 0x05]) := by
  simp only [List.mem_cons, List.not_mem_nil, or_false]
  rintro ⟨-, rfl | rfl | rfl | rfl | rfl⟩ <;> simp at plain

section Receiving

variable {s : State} {n : Nat}

/-- An unflawed character that is no in-line control, while a record comes in. -/
theorem State.receiving_takeCharacter {x : ParserState} {b : Byte}
    (plain : 0x20 ≤ b.toNat ∨ b ∈ [(0x01 : Byte), 0x03, 0x09]) :
    (s.receiving x n).takeCharacter b false = (s.receiving x (bump n)).takeData b false := by
  rw [State.takeCharacter_other (not_inLine_of plain)]
  rfl

theorem State.receiving_soh : (s.receiving .text n).takeCharacter 0x01 false = s.receiving .route (bump n) := by
  rw [State.receiving_takeCharacter (.inr (by decide)), State.takeData_text (s := s.receiving .text (bump n)) rfl]
  rfl

theorem and_low {b : Byte} (low : b.toNat < 128) : b &&& 0x7F = b := by
  refine BitVec.eq_of_toNat_eq ?_
  rw [BitVec.toNat_and]
  exact (Nat.and_two_pow_sub_one_eq_mod b.toNat 7).trans (Nat.mod_eq_of_lt low)

theorem isRouteCode_bounds {b : Byte} (code : isRouteCode b = true) : 0x20 ≤ b.toNat ∧ b.toNat < 128 := by
  rw [isRouteCode_iff] at code
  omega

theorem State.receiving_route {b : Byte} (code : isRouteCode b = true) :
    (s.receiving .route n).takeCharacter b false = s.receiving (.cls b) (bump n) := by
  have bounds := isRouteCode_bounds code
  rw [State.receiving_takeCharacter (.inl bounds.1), State.takeData_route (s := s.receiving .route (bump n)) rfl,
    and_low bounds.2, code]
  rfl

theorem State.receiving_class {route : Byte} (k : RecordClass) :
    (s.receiving (.cls route) n).takeCharacter (classByte k) false
      = s.receiving (.body route k [] (route ^^^ classByte k)) (bump n) := by
  rw [State.receiving_takeCharacter (.inl (by cases k <;> decide)),
    State.takeData_class (s := s.receiving (.cls route) (bump n)) (k := k) rfl (by cases k <;> rfl)]
  rfl

/-- The bytes a record sends are its text (R68, R96). -/
theorem recordSent_iff (b : Byte) : recordSent b = true ↔ (0x20 ≤ b.toNat ∧ b.toNat ≤ 0x7E) ∨ b = 0x09 := by
  simp [recordSent, BitVec.le_def]

theorem State.receiving_text {route running b : Byte} {k : RecordClass} {text : List RxByte}
    (sent : recordSent b = true) (short : text.length < 80) :
    (s.receiving (.body route k text running) n).takeCharacter b false
      = s.receiving (.body route k (text ++ [⟨b, false⟩]) (running ^^^ b)) (bump n) := by
  have plain : 0x20 ≤ b.toNat ∨ b ∈ [(0x01 : Byte), 0x03, 0x09] := by
    rcases (recordSent_iff b).1 sent with h | rfl
    · exact .inl h.1
    · exact .inr (by decide)
  rw [State.receiving_takeCharacter plain,
    State.takeData_body (s := s.receiving (.body route k text running) (bump n)) rfl,
    if_pos ((recordText_iff b false).2 (.inr ((recordSent_iff b).1 sent))), if_pos short]
  rfl

/-- The text of a record as sent comes in whole (R68, R96). -/
theorem State.receiving_texts {route : Byte} {k : RecordClass} (l : List Byte) (sent : ∀ b ∈ l, recordSent b = true)
    (text : List RxByte) (running : Byte) (n : Nat) (short : text.length + l.length ≤ 80) :
    ∃ m, l.foldl (fun u b => u.takeCharacter b false) (s.receiving (.body route k text running) n)
      = s.receiving (.body route k (text ++ l.map fun b => ⟨b, false⟩) (l.foldl (· ^^^ ·) running)) m := by
  induction l generalizing text running n with
  | nil => exact ⟨n, by simp⟩
  | cons b l ih =>
    rw [List.length_cons] at short
    obtain ⟨m, rest⟩ := ih (fun c mem => sent c (List.mem_cons_of_mem b mem)) (text ++ [⟨b, false⟩]) (running ^^^ b)
      (bump n) (by rw [List.length_append, List.length_singleton]; omega)
    refine ⟨m, ?_⟩
    rw [List.foldl_cons, State.receiving_text (sent b List.mem_cons_self) (by omega), rest]
    simp

theorem State.receiving_etx {route running : Byte} {k : RecordClass} {text : List RxByte} :
    (s.receiving (.body route k text running) n).takeCharacter 0x03 false
      = s.receiving (.check route k text running) (bump n) := by
  rw [State.receiving_takeCharacter (.inr (by decide)),
    State.takeData_body (s := s.receiving (.body route k text running) (bump n)) rfl]
  rfl

/-- The exclusive OR of bytes below 0x80 is below 0x80. -/
theorem xor_low (l : List Byte) (low : ∀ b ∈ l, b.toNat < 128) (x : Byte) (first : x.toNat < 128) :
    (l.foldl (· ^^^ ·) x).toNat < 128 := by
  induction l generalizing x with
  | nil => exact first
  | cons b l ih =>
    refine ih (fun c mem => low c (List.mem_cons_of_mem b mem)) _ ?_
    rw [BitVec.toNat_xor]
    exact Nat.xor_lt_two_pow (n := 7) first (low b List.mem_cons_self)

theorem checkOf_bounds {x : Byte} (low : x.toNat < 128) : 0x20 ≤ (checkOf x).toNat ∧ (checkOf x).toNat < 128 := by
  unfold checkOf
  split
  next small =>
    have small' : x.toNat < 32 := small
    rw [BitVec.toNat_add]
    simp
    omega
  next large =>
    have large' : ¬x.toNat < 32 := large
    omega

/-- The check byte as sent makes the check GOOD (R72). -/
theorem checkGood_sent {running : Byte} (low : running.toNat < 128) :
    checkGood running (checkOf running) false = true := by
  rw [checkGood, and_low (checkOf_bounds low).2]
  simp

theorem State.receiving_check {route running : Byte} {k : RecordClass} {text : List RxByte}
    (low : running.toNat < 128) :
    (s.receiving (.check route k text running) n).takeCharacter (checkOf running) false
      = (s.receiving (.check route k text running) (bump n)).verdict route k text running (checkOf running) false := by
  rw [State.receiving_takeCharacter (.inl (checkOf_bounds low).1),
    State.takeData_check (s := s.receiving (.check route k text running) (bump n)) rfl]

/-- A check byte as sent, over a text without flaws, has the record filed and answered by its class (R73). -/
theorem State.receiving_verdict {route running : Byte} (k : RecordClass) {text : List RxByte} {x : ParserState}
    (low : running.toNat < 128) (clean : ∀ b ∈ text, b.flawed = false) :
    (s.receiving x n).verdict route k text running (checkOf running) false
      = if k = .n then ((s.receiving .text n).file ⟨route, k, false, text⟩).1
        else ((s.receiving .text n).file ⟨route, k, false, text⟩).1.queueReply
          (if ((s.receiving .text n).file ⟨route, k, false, text⟩).2 then .ack else .nak) := by
  cases k with
  | n => rw [State.verdict_n, checkGood_sent low]; rfl
  | c => rw [State.verdict_filed (checkGood_sent low) clean]; rfl

/-- The exclusive OR of a record's bytes (R72). -/
def recordCheck (t : Settings) (x : Slot) : Byte :=
  xorBytes (x.route :: classByte x.cls :: keptBytes t recordSent x.content)

theorem recordCheck_eq (t : Settings) (x : Slot) :
    recordCheck t x = (keptBytes t recordSent x.content).foldl (· ^^^ ·) (x.route ^^^ classByte x.cls) := by
  rw [recordCheck, xorBytes, List.foldl_cons, List.foldl_cons, show (0 : Byte) ^^^ x.route = x.route from
    BitVec.zero_xor]

theorem keptBytes_sent {t : Settings} {l : List Byte} {b : Byte} (mem : b ∈ keptBytes t recordSent l) :
    recordSent b = true := by
  rw [keptBytes, List.mem_filter] at mem
  exact mem.2

theorem recordCheck_low (t : Settings) {x : Slot} (code : isRouteCode x.route = true) :
    (recordCheck t x).toNat < 128 := by
  rw [recordCheck_eq]
  refine xor_low _ (fun b mem => ?_) _ ?_
  · rcases (recordSent_iff b).1 (keptBytes_sent mem) with h | rfl
    · omega
    · decide
  · rw [BitVec.toNat_xor]
    exact Nat.xor_lt_two_pow (n := 7) (isRouteCode_bounds code).2 (by cases x.cls <;> decide)

theorem recordCharacters_eq (t : Settings) (x : Slot) : recordCharacters t x =
    0x01 :: x.route :: classByte x.cls :: (keptBytes t recordSent x.content ++ [0x03, checkOf (recordCheck t x)]) := rfl

/-- The characters of a record as sent bring the parser to the verdict on it (R67, R68, R96). -/
theorem State.receiving_record (t : Settings) {x : Slot} (code : isRouteCode x.route = true) (n : Nat) :
    let text : List RxByte := (keptBytes t recordSent x.content).map fun b => ⟨b, false⟩
    ∃ m, (recordCharacters t x).foldl (fun u b => u.takeCharacter b false) (s.receiving .text n)
      = (s.receiving (.check x.route x.cls text (recordCheck t x)) m).verdict x.route x.cls text (recordCheck t x)
        (checkOf (recordCheck t x)) false := by
  intro text
  have short : ([] : List RxByte).length + (keptBytes t recordSent x.content).length ≤ 80 := by
    rw [List.length_nil, Nat.zero_add]
    refine (List.length_filter_le _ _).trans ?_
    simp [Slot.content]
  obtain ⟨m, body⟩ := State.receiving_texts (s := s) (route := x.route) (k := x.cls) _ (fun _ => keptBytes_sent) []
    (x.route ^^^ classByte x.cls) (bump (bump (bump n))) short
  refine ⟨bump (bump m), ?_⟩
  rw [recordCharacters_eq, List.foldl_cons, State.receiving_soh, List.foldl_cons, State.receiving_route code,
    List.foldl_cons, State.receiving_class, List.foldl_append, body, ← recordCheck_eq, List.foldl_cons,
    State.receiving_etx, List.foldl_cons, State.receiving_check (recordCheck_low t code), List.foldl_nil]
  rfl

end Receiving

/-- Settles O36: the record's characters taken one after the other, up to the verdict on its check byte. -/
theorem recordsAreReceivedAsSent : Obligations.RecordsAreReceivedAsSent := by
  intro s t x state code _ text received s1 filed
  have start : s = s.receiving .text s.parser.counters.received := by rw [State.receiving, ← state]
  obtain ⟨m, record⟩ := State.receiving_record (s := s) t code s.parser.counters.received
  rw [← start] at record
  have verdict : received = _ := record
  have count : received.parser.counters.received = m := by
    rw [verdict]
    exact congrArg Prod.fst (State.verdict_tally _ _ _ _ _ _ _)
  have entered : s.receiving .text m = s1 := by
    show _ = ({ s with parser.counters.received := received.parser.counters.received } : State)
    rw [count, State.receiving, ← state]
  rw [verdict, State.receiving_verdict x.cls (recordCheck_low t code) (by simp), entered]

/-! ## The receive direct FIFO (R77, R78, R81) -/

theorem State.serving_iff (s : State) : s.serving = true ↔ s.sup.state = .online ∨ s.sup.state = .clearing := by
  simp [State.serving]

theorem State.toSink_discard {s : State} {b : Byte} {flawed : Bool} (discard : s.settings.sink = .discard) :
    s.toSink b flawed =
      { s with parser.counters.openDropped := min 65535 (s.parser.counters.openDropped + 1) } := by
  rw [State.toSink, if_pos discard, bump_eq_min]

theorem State.toSink_full {s : State} {b : Byte} {flawed : Bool} (kept : s.settings.sink ≠ .discard)
    (full : 256 ≤ s.parser.fifo.length) : s.toSink b flawed =
      { s with parser.counters.fifoDrops := min 65535 (s.parser.counters.fifoDrops + 1) }.alertBoth .rxOverflow := by
  rw [State.toSink, if_neg kept, if_pos full, bump_eq_min]

theorem Flow.eq_xoff_of_ne {f : Flow} (h : f ≠ .xon) : f = .xoff := by cases f <;> trivial

theorem Flow.eq_xon_of_ne {f : Flow} (h : f ≠ .xoff) : f = .xon := by cases f <;> trivial

/-- A byte that enters turns the local flow state at an occupancy of 192 (R81). -/
theorem State.toSink_enters {s : State} {b : Byte} {flawed : Bool} (kept : s.settings.sink ≠ .discard)
    (room : s.parser.fifo.length < 256) : s.toSink b flawed = { s with
      parser.fifo := s.parser.fifo ++ [⟨b, flawed⟩]
      parser.silence := ⟨some 3000000, false⟩
      parser.localFlow := if 191 ≤ s.parser.fifo.length then .xoff else s.parser.localFlow
      parser.pendingFlow :=
        if 191 ≤ s.parser.fifo.length ∧ s.parser.localFlow = .xon
          ∧ (s.sup.state = .online ∨ s.sup.state = .clearing) then some .xoff else s.parser.pendingFlow } := by
  have third : seconds 3 = 3000000 := rfl
  rw [State.toSink, if_neg kept, if_neg (Nat.not_le.2 room)]
  simp only [List.length_append, List.length_singleton, Bool.and_eq_true, decide_eq_true_eq, third]
  by_cases occupied : 191 ≤ s.parser.fifo.length
  · by_cases on : s.parser.localFlow = .xon
    · rw [if_pos ⟨by omega, on⟩, if_pos occupied]
      simp only [occupied, on, true_and, ← State.serving_iff]
      rfl
    · rw [if_neg (on ·.2), if_pos occupied, if_neg (on ·.2.1), ← Flow.eq_xoff_of_ne on]
  · rw [if_neg (by omega), if_neg occupied, if_neg (occupied ·.1)]

/-- A departure turns the local flow state at an occupancy of 64 (R81). -/
theorem State.departFifo_parser {s : State} {k : Nat} (some : 0 < k) (byArbiter : Bool) :
    (s.departFifo k byArbiter).parser = { s.parser with
      fifo := s.parser.fifo.drop k
      localFlow := if s.parser.fifo.length - k ≤ 64 then .xon else s.parser.localFlow
      pendingFlow := if s.parser.fifo.length - k ≤ 64 ∧ s.parser.localFlow = .xoff
        ∧ (s.sup.state = .online ∨ s.sup.state = .clearing) then .some .xon else s.parser.pendingFlow } := by
  rw [State.departFifo, if_neg (by omega)]
  dsimp only
  rw [State.changePrintMarks_parser]
  simp only [List.length_drop, Bool.and_eq_true, decide_eq_true_eq]
  by_cases low : s.parser.fifo.length - k ≤ 64
  · by_cases off : s.parser.localFlow = .xoff
    · rw [if_pos ⟨low, off⟩, if_pos low]
      simp only [low, off, true_and, ← State.serving_iff]
      rfl
    · rw [if_neg (off ·.2), if_pos low, if_neg (off ·.2.1), ← Flow.eq_xon_of_ne off]
  · rw [if_neg (low ·.1), if_neg low, if_neg (low ·.1)]

/-- Settles O37: the three ways of a byte to the sink, and a departure. -/
theorem localFlowFollowsTheFifo : Obligations.LocalFlowFollowsTheFifo :=
  fun _ _ _ => ⟨State.toSink_discard, State.toSink_full, State.toSink_enters,
    fun _ byArbiter some => State.departFifo_parser some byArbiter⟩


end Sys2Proof.Machine
end

section
/-! PROOF. The line commands and the transmit scheduler (chapter 5): status and open text, the character boundary, the
elements complete, the choice of turns, and the timers of the scheduler and of the arbiter. -/

namespace Sys2Proof.Machine

open Sys2Proof

/-! ## The line commands (R80, R83, R104) -/

theorem breakCommand_idle {s : State} (idle : ¬s.serving = true) : breakCommand s = refuse .lineIdle s := by
  rw [breakCommand, if_neg idle]

theorem breakCommand_fresh {s : State} (serving : s.serving = true) (none : s.sched.breakRequest = .none) :
    breakCommand s = ({ s with sched.breakRequest := .requested }.settle, ⟨.ok, []⟩) := by
  rw [breakCommand, if_pos serving, State.requestBreak, if_pos none]
  rfl

theorem breakCommand_merged {s : State} (serving : s.serving = true) (asked : s.sched.breakRequest ≠ .none) :
    breakCommand s = (s.settle, ⟨.ok, []⟩) := by
  rw [breakCommand, if_pos serving, State.requestBreak, if_neg asked]
  rfl

/-- The flow flags of line status, as a list of bits (R83). -/
def State.flowBits (s : State) : List Bool :=
  [decide (s.parser.localFlow = .xoff), decide (s.parser.pendingFlow = some .xon),
    decide (s.parser.pendingFlow = some .xoff), decide (s.sched.remoteFlow = .xoff), s.sched.answerbackPending]

theorem State.flowFlags_eq (s : State) : s.flowFlags = flagBits s.flowBits := by
  simp only [State.flowFlags, State.flowBits, flagBits]
  by_cases remote : s.sched.remoteFlow = .xoff <;> cases s.sched.answerbackPending <;>
    rcases s.parser.pendingFlow with _ | _ | _ <;> simp [remote]

theorem State.clearingLeft_eq (s : State) : s.clearingLeft =
    (if s.sup.state = .clearing then (s.sup.clearing.getD ⟨[], []⟩).chains.length else 0,
      if s.sup.state = .clearing then (s.sup.clearing.getD ⟨[], []⟩).chars.length else 0) := by
  unfold State.clearingLeft
  split
  case h_1 c state set => simp [state, set]
  case h_2 other =>
    by_cases state : s.sup.state = .clearing
    · cases set : s.sup.clearing with
      | none => simp
      | some c => exact absurd set (other c state)
    · simp [state]

/-- The 32 bytes of line status (R62, R83, R194). -/
theorem State.lineStatus_eq (s : State) :
    let clearing : Prop := s.sup.state = .clearing
    let set : ClearingSet := s.sup.clearing.getD ⟨[], []⟩
    let word (n : Nat) : List Byte := [BitVec.ofNat 8 (n / 256), BitVec.ofNat 8 n]
    let c := s.parser.counters
    s.lineStatus = [BitVec.ofNat 8 (supStateNumber s.sup.state), BitVec.ofNat 8 (modeNumber s.modem.mode),
        BitVec.ofNat 8 (carrierNumber s.modem.carrier), BitVec.ofNat 8 (reasonNumber s.sup.reason),
        BitVec.ofNat 8 (if clearing then set.chains.length else 0),
        BitVec.ofNat 8 (if clearing then set.chars.length else 0),
        BitVec.ofNat 8 (if clearing then s.sup.clearingTimer.getD 0 / 1000000 else 0),
        BitVec.ofNat 8 (if s.sup.state = .calling ∨ s.sup.state = .answering
          then s.sup.connectTimer.getD 0 / 1000000 else 0),
        BitVec.ofNat 8 (parserNumber s.parser.state), byteOf s.flowFlags] ++ word s.parser.fifo.length
      ++ [BitVec.ofNat 8 s.parser.replies.length, BitVec.ofNat 8 (sinkNumber s.settings.sink)]
      ++ word c.received ++ word c.flawed ++ word c.filed ++ word c.discarded ++ word c.lost ++ word c.unrouted
      ++ word c.stray ++ word c.fifoDrops ++ word c.openDropped := by
  intro clearing set word c
  rw [State.lineStatus, State.clearingLeft_eq]
  simp [Counters.list, wordBytes, byteOf, secondsLeft, clearing, set, word, c]

section OpenText

variable {s : State} {p : Port} {count : Byte}

theorem readOpenTextCommand_badArg (outside : count = 0 ∨ 32 < count.toNat) :
    readOpenTextCommand p count s = refuse .badArg s := by
  have bad : (decide (count.toNat < 1) || decide (32 < count.toNat)) = true := by
    rcases outside with rfl | h
    · rfl
    · simp [h]
  rw [readOpenTextCommand, if_pos bad]

theorem not_countOutside (least : 1 ≤ count.toNat) (most : count.toNat ≤ 32) :
    ¬(decide (count.toNat < 1) || decide (32 < count.toNat)) = true := by
  simp only [Bool.or_eq_true, decide_eq_true_eq]
  omega

theorem readOpenTextCommand_wrongState (least : 1 ≤ count.toNat) (most : count.toNat ≤ 32)
    (other : s.settings.sink ≠ if p = .a then .portA else .portB) :
    readOpenTextCommand p count s = refuse .wrongState s := by
  have other' : s.settings.sink ≠ sinkOfPort p := by cases p <;> exact other
  rw [readOpenTextCommand, if_neg (not_countOutside least most), if_pos other']

theorem readOpenTextCommand_empty (least : 1 ≤ count.toNat) (most : count.toNat ≤ 32)
    (mine : s.settings.sink = if p = .a then .portA else .portB) (empty : s.parser.fifo = []) :
    readOpenTextCommand p count s = refuse .empty s := by
  have mine' : ¬s.settings.sink ≠ sinkOfPort p := by cases p <;> exact not_not.2 mine
  rw [readOpenTextCommand, if_neg (not_countOutside least most), if_neg mine', if_pos (by rw [empty]; rfl)]

theorem readOpenTextCommand_takes (least : 1 ≤ count.toNat) (most : count.toNat ≤ 32)
    (mine : s.settings.sink = if p = .a then .portA else .portB) (some : s.parser.fifo ≠ []) :
    readOpenTextCommand p count s =
      ((s.departFifo (min count.toNat s.parser.fifo.length) false).settle,
        ⟨.ok, BitVec.ofNat 8 (min count.toNat s.parser.fifo.length)
          :: ((s.parser.fifo.take (min count.toNat s.parser.fifo.length)).map (·.byte)
            ++ flawMap ((min count.toNat s.parser.fifo.length + 7) / 8)
              ((s.parser.fifo.take count.toNat).map (·.flawed)))⟩) := by
  have mine' : ¬s.settings.sink ≠ sinkOfPort p := by cases p <;> exact not_not.2 mine
  rw [readOpenTextCommand, if_neg (not_countOutside least most), if_neg mine', if_neg (by simpa using some)]
  simp only [List.length_take, byteOf, ← List.take_eq_take_min]

end OpenText

/-- Settles O38: each command by its handler's cases. -/
theorem lineCommands : Obligations.LineCommands := by
  intro s p serves s1 served
  have serving : (s.attach p).serving = true ↔ served := (s.attach p).serving_iff
  refine ⟨fun idle => ?_, fun on none => ?_, fun on asked => ?_, ?_, ?_, fun count => ?_⟩
  · exact State.servePort_refused serves (breakCommand_idle (idle ∘ serving.1))
  · exact State.servePort_next serves (breakCommand_fresh (serving.2 on) none)
  · exact State.servePort_next serves (breakCommand_merged (serving.2 on) asked)
  · exact State.servePort_next serves rfl
  · have bit : ∀ k < 8, (byteOf s.flowFlags).getLsbD k = s.flowBits.getD k false := fun k inside => by
      rw [State.flowFlags_eq, byteOf_flagBits_getLsbD _ inside]
    have bound : s.flowFlags < 32 := by
      rw [State.flowFlags_eq]
      exact flagBits_lt_two_pow s.flowBits
    refine ⟨byteOf s.flowFlags, ?_, ?_, ?_, ?_, ?_, ?_, ?_⟩
    · exact State.servePort_next serves (congrArg (fun l => (s.attach p, (⟨.ok, l⟩ : Response)))
        (State.lineStatus_eq (s.attach p)))
    · rw [byteOf, BitVec.toNat_ofNat]
      omega
    · rw [bit 0 (by decide)]; exact decide_eq_true_iff
    · rw [bit 1 (by decide)]; exact decide_eq_true_iff
    · rw [bit 2 (by decide)]; exact decide_eq_true_iff
    · rw [bit 3 (by decide)]; exact decide_eq_true_iff
    · rw [bit 4 (by decide)]; exact Iff.rfl
  · intro mine n
    refine ⟨fun outside => ?_, fun least most => ⟨fun other => ?_, fun isMine empty => ?_, fun isMine some => ?_⟩⟩
    · exact State.servePort_refused serves (readOpenTextCommand_badArg outside)
    · exact State.servePort_refused serves (readOpenTextCommand_wrongState least most other)
    · exact State.servePort_refused serves (readOpenTextCommand_empty least most isMine empty)
    · refine ⟨flawMap ((n + 7) / 8) ((s.parser.fifo.take count.toNat).map fun x : RxByte => x.flawed),
        flawMap_length _ _, fun q inside => ?_,
        State.servePort_next serves (readOpenTextCommand_takes (s := s.attach p) least most isMine some)⟩
      have below : q < count.toNat := by omega
      rw [flawMap_bit (by omega), List.getD, List.getElem?_map, List.getElem?_take_of_lt below]

/-! ## The steps of a boundary (R86) -/

section Loop

variable {s : State}

theorem State.serveLine_wait (wait : s.lineOnce false = .wait) : s.serveLine = s := by
  rw [State.serveLine, State.lineLoop, wait]

theorem State.serveLine_handed {u : State} (handed : s.lineOnce false = .handed u) : s.serveLine = u := by
  rw [State.serveLine, State.lineLoop, handed]
  rfl

theorem State.serveLine_again {u : State} (again : s.lineOnce false = .again u) :
    s.serveLine = u.lineLoop true 99 := by
  rw [State.serveLine, State.lineLoop, again]

theorem State.lineLoop_off (off : s.serving = false) (reached : Bool) (n : Nat) : s.lineLoop reached n = s := by
  cases n with
  | zero => rfl
  | succ n => simp only [State.lineLoop, State.lineOnce, off, Bool.not_false, if_true]

theorem State.lineOnce_cleared (serving : s.serving = true) (done : s.clearingDone = true) (reached : Bool) :
    s.lineOnce reached = .again (s.goIdle .cleared) := by
  simp only [State.lineOnce, serving, done, Bool.not_true, Bool.false_eq_true, if_false, if_true]

end Loop

section Boundary

variable {s : State} (serving : s.serving = true) (undone : s.clearingDone = false) (mark : s.markIdle = true)
  (reached : Bool)

include serving undone mark

/-- A requested break goes first, outside a record (R86 step 1, R104). -/
theorem State.lineOnce_break (asked : s.sched.breakRequest = .requested) (outside : s.recordInProgress = false) :
    s.lineOnce reached = .handed s.handBreak := by
  simp [State.lineOnce, serving, undone, mark, asked, outside]

variable (free : s.sched.breakRequest ≠ .requested ∨ s.recordInProgress = true)

include free

omit serving undone mark in
theorem State.noBreak : ¬(s.markIdle && decide (s.sched.breakRequest = .requested) && !s.recordInProgress) = true := by
  rcases free with h | h <;> simp [h]

/-- Without a break to hand, the pending flow control goes (R86 step 2). -/
theorem State.lineOnce_flow {f : Flow} (flow : s.parser.pendingFlow = some f) :
    s.lineOnce reached = .handed ({ s with parser.pendingFlow := none }.handCharacter (flowByte f) .flow) := by
  rw [State.lineOnce, if_neg (by simp [serving]), if_neg (by simp [undone]), if_neg (State.noBreak free),
    if_pos mark]
  simp only [flow]

/-- Then the oldest reply (R86 step 3). -/
theorem State.lineOnce_reply {r : Reply} {rs : List Reply} (flow : s.parser.pendingFlow = none)
    (replies : s.parser.replies = r :: rs) :
    s.lineOnce reached = .handed ({ s with parser.replies := rs }.handCharacter (replyByte r) .reply) := by
  rw [State.lineOnce, if_neg (by simp [serving]), if_neg (by simp [undone]), if_neg (State.noBreak free),
    if_pos mark]
  simp only [flow, replies]

/-- Then the turn (R86 steps 4 to 6). -/
theorem State.lineOnce_turn (flow : s.parser.pendingFlow = none) (replies : s.parser.replies = []) :
    s.lineOnce reached = s.turnStep reached := by
  rw [State.lineOnce, if_neg (by simp [serving]), if_neg (by simp [undone]), if_neg (State.noBreak free),
    if_pos mark]
  simp only [flow, replies]

end Boundary

/-! ## The step of a turn (R87 to R101) -/

theorem State.textReady_iff (s : State) : s.textReady = true ↔ s.markIdle = true ∧ s.sched.remoteFlow = .xon := by
  simp [State.textReady]

theorem State.textReady_xoff {s : State} (stopped : s.sched.remoteFlow = .xoff) : s.textReady = false := by
  simp [State.textReady, stopped]

section TurnStep

variable {s : State} {ct : ChainTurn}

theorem State.turnStep_none_held (turn : s.sched.turn = .none) (held : s.sched.holdWait ≠ none) (reached : Bool) :
    s.turnStep reached = .wait := by
  have held' : s.sched.holdWait.isSome = true := Option.isSome_iff_ne_none.2 held
  simp only [State.turnStep, turn, held', Bool.true_or, if_true]

theorem State.turnStep_chain_held (turn : s.sched.turn = .chain ct) (held : s.sched.holdWait ≠ none)
    (reached : Bool) : s.turnStep reached = .wait := by
  have held' : s.sched.holdWait.isSome = true := Option.isSome_iff_ne_none.2 held
  simp only [State.turnStep, turn, held', if_true]

theorem State.turnStep_none (turn : s.sched.turn = .none) (free : s.sched.holdWait = none)
    (mark : s.markIdle = true) (none : s.chooseTurn = none) (reached : Bool) : s.turnStep reached = .wait := by
  have skip : ¬(s.sched.holdWait.isSome || !(s.markIdle || reached)) = true := by simp [free, mark]
  simp only [State.turnStep, turn, if_neg skip, none]

theorem State.turnStep_chosen {u : State} (turn : s.sched.turn = .none) (free : s.sched.holdWait = none)
    (mark : s.markIdle = true) (chosen : s.chooseTurn = some u) (reached : Bool) : s.turnStep reached = .again u := by
  have skip : ¬(s.sched.holdWait.isSome || !(s.markIdle || reached)) = true := by simp [free, mark]
  simp only [State.turnStep, turn, if_neg skip, chosen]

theorem State.turnStep_key_xoff {n : Nat} (turn : s.sched.turn = .key n) (stopped : s.sched.remoteFlow = .xoff)
    (reached : Bool) : s.turnStep reached = .wait := by
  simp only [State.turnStep, turn, State.textReady_xoff stopped, Bool.not_false, if_true]

theorem State.turnStep_key {n : Nat} {c : KeyChar} {cs : List KeyChar} (turn : s.sched.turn = .key (n + 1))
    (ready : s.textReady = true) (keys : s.sched.keyFifo = c :: cs) (reached : Bool) : s.turnStep reached =
      .handed ({ s with sched.keyFifo := cs, sched.turn := .key n }.handCharacter c.code (.key c.entry)) := by
  simp only [State.turnStep, turn, ready, keys, Bool.not_true, Bool.false_eq_true, if_false]

theorem State.turnStep_answerback {b : Byte} {bs : List Byte} {x : Option ChainTurn}
    (turn : s.sched.turn = .answerback (b :: bs) x) (mark : s.markIdle = true) (reached : Bool) :
    s.turnStep reached = .handed ({ s with sched.turn := .answerback bs x }.handCharacter b .answerback) := by
  simp only [State.turnStep, turn, mark, if_true]

theorem State.turnStep_chain (turn : s.sched.turn = .chain ct) (free : s.sched.holdWait = none)
    (kept : s.sched.withdrawalPending = false) (reached : Bool) : s.turnStep reached = s.chainStep ct := by
  simp only [State.turnStep, turn, free, kept, Option.isSome_none, Bool.false_eq_true, if_false]

theorem State.turnStep_withdrawal (turn : s.sched.turn = .chain ct) (free : s.sched.holdWait = none)
    (pending : s.sched.withdrawalPending = true) (reached : Bool) : s.turnStep reached = s.withdrawalStep ct := by
  simp only [State.turnStep, turn, free, pending, Option.isSome_none, Bool.false_eq_true, if_false, if_true]

theorem State.chainStep_xoff (stopped : s.sched.remoteFlow = .xoff) (text : ∀ first, ct.phase ≠ .between first) :
    s.chainStep ct = .wait := by
  have idle := State.textReady_xoff stopped
  unfold State.chainStep
  split
  · rw [if_neg (by simp [idle])]
  · exact absurd ‹_› (text _)
  · rw [if_neg (by simp [idle])]
  · rfl

theorem State.chainStep_reply (phase : ct.phase = .reply) : s.chainStep ct = .wait := by
  simp only [State.chainStep, phase]

theorem State.chainStep_plain {n : Nat} {b : Byte} (phase : ct.phase = .plain n) (ready : s.textReady = true)
    (next : (s.plainBytes ct.head)[n]? = some b) : s.chainStep ct =
      .handed ({ s with sched.turn := .chain { ct with phase := .plain (n + 1) } }.handCharacter b .plain) := by
  simp only [State.chainStep, phase, ready, next, if_true]

theorem State.chainStep_record {n : Nat} {b : Byte} (phase : ct.phase = .record n) (ready : s.textReady = true)
    (next : (recordCharacters s.settings (s.slot ct.member))[n]? = some b) : s.chainStep ct =
      .handed ({ s with sched.turn := .chain { ct with phase := .record (n + 1) } }.handCharacter b
        (if n + 1 = (recordCharacters s.settings (s.slot ct.member)).length then .check else .record)) := by
  simp only [State.chainStep, phase, ready, next, if_true]

theorem State.chainStep_answerback (phase : ct.phase = .between false) (mark : s.markIdle = true)
    (owed : s.sched.answerbackPending = true) : s.chainStep ct = .again (s.chooseAnswerback (some ct)) := by
  simp [State.chainStep, phase, mark, owed]

theorem State.chainStep_between {first : Bool} (phase : ct.phase = .between first) (mark : s.markIdle = true)
    (not_owed : first = true ∨ s.sched.answerbackPending = false) : s.chainStep ct =
      if s.sched.remoteFlow = .xon then .handed (({ s with
        sched.turn := .chain { ct with phase := .record 1 } }.countAttempt ct).handCharacter 0x01 .record)
      else .wait := by
  have none : (s.sched.answerbackPending && !first) = false := by rcases not_owed with h | h <;> simp [h]
  simp only [State.chainStep, phase, mark, none, Bool.not_true, Bool.false_eq_true, if_false]

theorem State.withdrawalStep_record {n : Nat} (phase : ct.phase = .record n)
    (before : n < (recordCharacters s.settings (s.slot ct.member)).length) : s.withdrawalStep ct =
      if s.textReady then .handed (s.handCharacter 0x18 .can) else .wait := by
  simp only [State.withdrawalStep, phase, before, decide_true, Bool.true_and]

theorem State.withdrawalStep_asks (mark : s.markIdle = true) (outside : ∀ n, ct.phase ≠ .record n) :
    s.withdrawalStep ct = .again (s.withdrawActive ct.head) := by
  unfold State.withdrawalStep
  split
  · exact absurd ‹_› (outside _)
  · rw [if_pos mark]

/-- The attempt counted at a record's SOH, in the member and in the head (R96). -/
theorem State.countAttempt_slots (s : State) (ct : ChainTurn) : (s.countAttempt ct).slots =
    Vector.ofFn fun i : SlotId => if i = ct.member ∨ i = ct.head
      then { s.slot i with attempts := (s.slot ct.member).attempts + 1 } else s.slot i := by
  obtain ⟨head, entry, member, phase⟩ := ct
  refine Vector.ext fun i inside => ?_
  show (s.countAttempt ⟨head, entry, member, phase⟩).slot ⟨i, inside⟩ = _
  rw [Vector.getElem_ofFn, State.countAttempt]
  simp only [State.setSlot_slot]
  generalize (⟨i, inside⟩ : SlotId) = j
  by_cases isHead : j = head
  · subst isHead
    rcases eq_or_ne member j with rfl | other
    · simp
    · simp [other, other.symm]
  · by_cases isMember : j = member
    · subst isMember
      simp [isHead, Ne.symm isHead]
    · simp [isHead, isMember, Ne.symm isHead, Ne.symm isMember]

theorem State.countAttempt_eq (s : State) (ct : ChainTurn) : s.countAttempt ct = { s with
    slots := Vector.ofFn fun i : SlotId => if i = ct.member ∨ i = ct.head
      then { s.slot i with attempts := (s.slot ct.member).attempts + 1 } else s.slot i } := by
  rw [← s.countAttempt_slots ct]
  rfl

end TurnStep

/-! ## What is sent (R90, R95, R96) -/

theorem plainSent_iff (b : Byte) :
    plainSent b = true ↔ 0x20 ≤ b.toNat ∨ b ∈ [(0x09 : Byte), 0x0D, 0x0A, 0x0C, 0x08] := by
  simp [plainSent, BitVec.le_def, or_assoc]

theorem answerbackSent_iff (b : Byte) :
    answerbackSent b = true ↔ (0x20 ≤ b.toNat ∧ b.toNat ≤ 0x7E) ∨ b = 0x0D ∨ b = 0x0A := by
  simp [answerbackSent, BitVec.le_def, or_assoc]

/-- A test of bytes is the one it agrees with. -/
theorem keep_eq {keep sent : Byte → Bool} {p : Byte → Prop} (is : ∀ b, keep b = true ↔ p b)
    (sends : ∀ b, sent b = true ↔ p b) : keep = sent :=
  funext fun b => Bool.eq_iff_iff.2 ((is b).trans (sends b).symm)

theorem checkOf_eq (x : Byte) : checkOf x = if x.toNat < 0x20 then x + 0x20 else x := rfl

theorem classByte_of (k : RecordClass) : classByte k = if k = .c then 0x43 else 0x4E := by cases k <;> rfl

/-- Settles O39: the order of a boundary, then each turn's step. -/
theorem boundaryOrder : Obligations.BoundaryOrder := by
  refine ⟨fun s clearing mark idle empty => ?_, fun s i keep => ⟨fun is => ?_, fun is => ?_⟩,
    fun s served isMark unfinished => ?_⟩
  · have done : s.clearingDone = true := by
      rw [State.clearingDone_iff]
      refine ⟨clearing, ?_, idle, mark⟩
      rcases empty with h | h <;> simp [State.clearingEmpty, h]
    rw [State.serveLine_again (State.lineOnce_cleared (s.serving_iff.2 (.inr clearing)) done false)]
    exact State.lineLoop_off (by simp [State.serving, State.goIdle, State.lineEvent_sup, State.enterIdle]) true 99
  · rw [keep_eq is plainSent_iff]
    rfl
  · intro body sum
    have sent := keep_eq is recordSent_iff
    subst sent
    rw [recordCharacters_eq, checkOf_eq, recordCheck, classByte_of]
    rfl
  · intro free sends
    have serving := s.serving_iff.2 served
    have mark : s.markIdle = true := decide_eq_true isMark
    have undone : s.clearingDone = false := by
      refine Bool.eq_false_iff.2 fun done => ?_
      obtain ⟨clearing, empty, idle, -⟩ := s.clearingDone_iff.1 done
      rcases unfinished clearing with turn | ⟨set, is, left⟩
      · exact turn idle
      · simp only [State.clearingEmpty, is, Bool.and_eq_true, List.isEmpty_iff] at empty
        exact left.elim (· empty.1) (· empty.2)
    refine ⟨fun asked => ?_, fun isFree f flow => ?_, fun isFree flow r rs replies => ?_, fun isFree flow replies => ?_⟩
    · have asked' : s.sched.breakRequest = .requested ∧ s.recordInProgress = false := by
        simpa [free, not_or] using asked
      exact State.serveLine_handed (State.lineOnce_break serving undone mark false asked'.1 asked'.2)
    · refine (State.serveLine_handed (State.lineOnce_flow serving undone mark false isFree flow)).trans ?_
      cases f <;> rfl
    · refine (State.serveLine_handed (State.lineOnce_reply serving undone mark false isFree flow replies)).trans ?_
      cases r <;> rfl
    have turns : s.lineOnce false = s.turnStep false :=
      State.lineOnce_turn serving undone mark false isFree flow replies
    have waits : s.turnStep false = .wait → s.serveLine = s := fun h => State.serveLine_wait (turns.trans h)
    have hands : ∀ {u}, s.turnStep false = .handed u → s.serveLine = u :=
      fun h => State.serveLine_handed (turns.trans h)
    have ready : s.sched.remoteFlow = .xon → s.textReady = true := fun flowing => s.textReady_iff.2 ⟨mark, flowing⟩
    refine ⟨fun n turn => ⟨fun stopped => waits (State.turnStep_key_xoff turn stopped false),
        fun c cs flowing keys some => ?_⟩,
      fun b bs x turn => hands (State.turnStep_answerback turn mark false), fun u => State.serveLine_again,
      fun turn wait => ⟨fun none => waits (State.turnStep_none turn wait mark none false),
        fun u chosen => turns.trans (State.turnStep_chosen turn wait mark chosen false)⟩,
      fun turn held => ?_, fun ct turn wait => ?_⟩
    · obtain ⟨m, rfl⟩ : ∃ m, n = m + 1 := ⟨n - 1, by omega⟩
      exact hands (State.turnStep_key turn (ready flowing) keys false)
    · rcases turn with turn | ⟨ct, turn⟩
      · exact waits (State.turnStep_none_held turn held false)
      · exact waits (State.turnStep_chain_held turn held false)
    intro chars withdrawn
    refine ⟨fun kept => ?_, fun pending => ?_⟩
    · have step : s.turnStep false = s.chainStep ct := State.turnStep_chain turn wait kept false
      refine ⟨fun stopped text => waits (step.trans (State.chainStep_xoff stopped text)),
        fun reply => waits (step.trans (State.chainStep_reply reply)),
        fun n b phase flowing next => hands (step.trans (State.chainStep_plain phase (ready flowing) next)),
        fun n b phase flowing next => hands (step.trans (State.chainStep_record phase (ready flowing) next)),
        fun first phase => ⟨fun later owed => ?_, fun not_owed => ?_⟩⟩
      · subst later
        exact turns.trans (step.trans (State.chainStep_answerback phase mark owed))
      · have between := step.trans (State.chainStep_between phase mark not_owed)
        refine ⟨fun stopped => waits (between.trans (if_neg (by rw [stopped]; decide))), fun flowing => ?_⟩
        refine (hands (between.trans (if_pos flowing))).trans ?_
        rw [State.countAttempt_eq]
        rfl
    · have step : s.turnStep false = s.withdrawalStep ct := State.turnStep_withdrawal turn wait pending false
      have asks : (∀ n, ct.phase ≠ .record n) → s.lineOnce false = .again withdrawn := fun outside =>
        turns.trans (step.trans (State.withdrawalStep_asks mark outside))
      refine ⟨fun n phase before => ⟨fun stopped => ?_, fun flowing => ?_⟩, fun n phase => asks (by simp [phase]),
        fun first phase => asks (by simp [phase])⟩
      · exact waits (step.trans ((State.withdrawalStep_record phase before).trans
          (if_neg (by simp [State.textReady_xoff stopped]))))
      · exact hands (step.trans ((State.withdrawalStep_record phase before).trans (if_pos (ready flowing))))

/-! ## Elements complete (R30, R31, R90 to R101) -/

theorem State.testLineMarks_turn (s : State) : s.testLineMarks.sched.turn = s.sched.turn := by
  rw [s.testLineMarks_sched]

theorem State.testLineMarks_holdWait (s : State) : s.testLineMarks.sched.holdWait = s.sched.holdWait := by
  rw [s.testLineMarks_sched]

section Freed

variable {s t : State}

/-- The turn and the hold wait as they were reach no turn boundary. -/
theorem State.settleAfter_same (turn : t.sched.turn = s.sched.turn) (wait : t.sched.holdWait = s.sched.holdWait) :
    s.settleAfter t = t.settle := by
  have none : ¬State.turnFreed s t = true := by
    simp only [State.turnFreed, turn, wait, Bool.and_eq_true, Bool.or_eq_true, decide_eq_true_eq]
    rintro ⟨⟨chain | held, idle⟩, free⟩
    · simp [idle, Turn.isChain] at chain
    · simp [Option.isNone_iff_eq_none.1 free] at held
  rw [State.settleAfter, if_neg none]

/-- The end of a turn that was no chain turn is no turn boundary of its own (R87). -/
theorem State.settleAfter_notChain (other : s.sched.turn.isChain = false) (wait : t.sched.holdWait = s.sched.holdWait) :
    s.settleAfter t = t.settle := by
  have none : ¬State.turnFreed s t = true := by
    simp only [State.turnFreed, other, wait, Bool.false_or, Bool.and_eq_true, decide_eq_true_eq]
    rintro ⟨⟨held, -⟩, free⟩
    simp [Option.isNone_iff_eq_none.1 free] at held
  rw [State.settleAfter, if_neg none]

/-- With a chain turn there is no turn boundary. -/
theorem State.settleAfter_chain {ct : ChainTurn} (turn : t.sched.turn = .chain ct) : s.settleAfter t = t.settle := by
  rw [State.settleAfter, if_neg (by simp [State.turnFreed, turn])]

end Freed

/-- The state in which a completed character leaves the modulator (R30). -/
def State.characterOut (s : State) : State := { s with modem.modulator := .markIdle, sched.handed := none }

section CharacterDone

variable {s : State} {ct : ChainTurn}

theorem State.characterDone_plainControl
    (handed : s.sched.handed = some .flow ∨ s.sched.handed = some .reply ∨ s.sched.handed = some .record) :
    s.characterDone = s.characterOut := by
  rcases handed with h | h | h <;> simp only [State.characterDone, h, State.characterOut]

theorem State.characterDone_key {e k : Nat} (handed : s.sched.handed = some (.key e))
    (turn : s.sched.turn = .key (k + 1)) :
    s.characterDone = (s.characterOut.clearingDropChar e).testLineMarks := by
  simp only [State.characterDone, handed, turn, State.characterOut]
  rw [if_neg (by simp), ← turn]

theorem State.characterDone_lastKey {e : Nat} (handed : s.sched.handed = some (.key e)) (turn : s.sched.turn = .key 0) :
    s.characterDone = ({ s.characterOut with sched.turn := .none }.clearingDropChar e).testLineMarks := by
  simp only [State.characterDone, handed, turn, State.characterOut, if_true]

theorem State.characterDone_check (handed : s.sched.handed = some .check) (turn : s.sched.turn = .chain ct)
    (kept : s.sched.withdrawalPending = false) : s.characterDone =
      if (s.characterOut.slot ct.member).cls = .n then s.characterOut.acceptRecord ct
      else { s.characterOut with
        sched.turn := .chain { ct with phase := .reply }
        sched.replyTimer := some (s.settings.replyTimeout * 1000000) } := by
  simp only [State.characterDone, handed, turn, kept, Bool.false_eq_true, if_false, State.characterOut, seconds]

theorem State.characterDone_checkWithdrawn (handed : s.sched.handed = some .check) (turn : s.sched.turn = .chain ct)
    (pending : s.sched.withdrawalPending = true) : s.characterDone =
      { s.characterOut with sched.turn := .chain { ct with phase := .between false } } := by
  simp only [State.characterDone, handed, turn, pending, if_true, State.characterOut]

theorem State.characterDone_can (handed : s.sched.handed = some .can) (turn : s.sched.turn = .chain ct) :
    s.characterDone = s.characterOut.withdrawActive ct.head := by
  simp only [State.characterDone, handed, turn, State.characterOut]

theorem State.characterDone_answerback {b : Byte} {bs : List Byte} {x : Option ChainTurn}
    (handed : s.sched.handed = some .answerback) (turn : s.sched.turn = .answerback (b :: bs) x) :
    s.characterDone = s.characterOut := by
  simp only [State.characterDone, handed, turn, State.characterOut]

theorem State.characterDone_lastAnswerback {x : Option ChainTurn} (handed : s.sched.handed = some .answerback)
    (turn : s.sched.turn = .answerback [] x) : s.characterDone = s.characterOut.resumeTurn x := by
  simp only [State.characterDone, handed, turn, State.characterOut]

theorem State.characterDone_plain {k : Nat} (handed : s.sched.handed = some .plain) (turn : s.sched.turn = .chain ct)
    (phase : ct.phase = .plain k) : s.characterDone =
      if k = (s.plainBytes ct.head).length ∧ s.sched.withdrawalPending = false then s.characterOut.completeChain ct.head
      else s.characterOut := by
  have same : s.characterOut.plainBytes ct.head = s.plainBytes ct.head := rfl
  rw [← same]
  simp only [State.characterDone, handed, turn, phase, State.characterOut, Bool.and_eq_true, decide_eq_true_eq,
    Bool.not_eq_true']

end CharacterDone

/-- Settles O40: what is complete, then the boundary it makes. -/
theorem elementsComplete : Obligations.ElementsComplete := by
  refine ⟨fun s left breaking => ?_, fun s frame n character => ?_⟩
  · show Host.Outcome.next (if _ then _ else _) = _
    rw [if_pos (by rw [breaking]; rfl)]
    rfl
  have ran : exec .characterComplete s = .next (s.settleAfter s.characterDone) := by
    show Host.Outcome.next (if _ then _ else _) = _
    rw [if_pos (by rw [character]; rfl)]
  rw [ran]
  refine ⟨fun handed => ?_, fun e k handed turn => ?_, fun e handed turn => ?_, fun ct handed turn kept => ?_,
    fun ct handed turn pending => ?_, fun ct handed turn => ?_, fun handed => ?_, fun ct k handed turn phase => ?_⟩
  · rw [State.characterDone_plainControl handed, State.settleAfter_same (s := s) (t := s.characterOut) rfl rfl]
    rfl
  · rw [State.characterDone_key handed turn, 
      State.settleAfter_same (s := s) (State.testLineMarks_turn (s.characterOut.clearingDropChar e))
        (State.testLineMarks_holdWait (s.characterOut.clearingDropChar e))]
    rfl
  · rw [State.characterDone_lastKey handed turn, 
      State.settleAfter_notChain (s := s) (by rw [turn]; rfl)
        (State.testLineMarks_holdWait ({ s.characterOut with sched.turn := .none }.clearingDropChar e))]
    rfl
  · have same : s.characterOut.slot ct.member = s.slot ct.member := rfl
    rw [State.characterDone_check handed turn kept, same]
    refine ⟨fun c => ?_, fun n m next => ?_, fun n last => ?_⟩
    · rw [if_neg (by rw [c]; decide), State.settleAfter_chain rfl]
      rfl
    · rw [if_pos n, State.acceptRecord_more (s := s.characterOut) next, State.settleAfter_chain rfl]
      rfl
    · rw [if_pos n, State.acceptRecord_last (s := s.characterOut) last]
      rfl
  · rw [State.characterDone_checkWithdrawn handed turn pending, State.settleAfter_chain rfl]
    rfl
  · rw [State.characterDone_can handed turn]
    rfl
  · refine ⟨fun b bs x turn => ?_, fun turn => ?_, fun ct turn => ?_⟩
    · rw [State.characterDone_answerback handed turn, State.settleAfter_same (s := s) (t := s.characterOut) rfl rfl]
      rfl
    · rw [State.characterDone_lastAnswerback handed turn, 
        State.settleAfter_notChain (s := s) (t := s.characterOut.resumeTurn none) (by rw [turn]; rfl) rfl]
      rfl
    · rw [State.characterDone_lastAnswerback handed turn,
        State.settleAfter_chain (t := s.characterOut.resumeTurn (some ct)) rfl]
      rfl
  · rw [State.characterDone_plain handed turn phase]
    refine ⟨fun last kept => ?_, fun more => ?_⟩
    · rw [if_pos ⟨last, kept⟩]
      rfl
    · rw [if_neg (by rintro ⟨last, kept⟩; simp [last, kept] at more),
        State.settleAfter_same (s := s) (t := s.characterOut) rfl rfl]
      rfl

/-! ## The choice of turns (R87 to R94) -/

theorem State.chainMember_iff (s : State) (h : SlotId) : s.chainMember h = true ↔
    (s.sup.state = .clearing → ∃ c, s.sup.clearing = some c ∧ h ∈ c.chains) := by
  by_cases clearing : s.sup.state = .clearing
  · cases set : s.sup.clearing with
    | none => simp [State.chainMember, clearing, set]
    | some c => simp [State.chainMember, clearing, set]
  · simp [State.chainMember, clearing]

theorem State.charMember_iff (s : State) (c : KeyChar) : s.charMember c = true ↔
    (s.sup.state = .clearing → ∃ set, s.sup.clearing = some set ∧ c.entry ∈ set.chars) := by
  by_cases clearing : s.sup.state = .clearing
  · cases set : s.sup.clearing with
    | none => simp [State.charMember, clearing, set]
    | some c => simp [State.charMember, clearing, set]
  · simp [State.charMember, clearing]

/-- The eligible send chains (R89). -/
theorem State.mem_eligibleChains_iff (s : State) (x : QueuedChain) : x ∈ s.eligibleChains ↔
    x ∈ s.sched.sendQueue ∧ (s.slot x.head).state = .queued ∧ (s.slot x.head).chainHead = some x.head
      ∧ (∃ p, (s.slot x.head).owner = some p ∧ s.sched.masks.get p = none)
      ∧ (s.sup.state = .clearing → ∃ c, s.sup.clearing = some c ∧ x.head ∈ c.chains) := by
  rw [← State.chainMember_iff]
  simp only [State.eligibleChains, List.mem_filter, Bool.and_eq_true, decide_eq_true_eq, and_assoc]
  cases owner : (s.slot x.head).owner <;> simp

/-- The front of a list that passes a test is the longest front whose members all pass it. -/
theorem le_length_takeWhile_iff {α : Type} {p : α → Bool} {l : List α} {n : Nat} (inside : n ≤ l.length) :
    n ≤ (l.takeWhile p).length ↔ ∀ c ∈ l.take n, p c = true := by
  induction l generalizing n with
  | nil => simp_all
  | cons a l ih =>
    cases n with
    | zero => simp
    | succ n =>
      cases passes : p a with
      | false => simp [passes]
      | true => simpa [passes] using ih (Nat.le_of_succ_le_succ inside)

theorem State.keysReady_open {s : State} (other : s.sup.state ≠ .clearing) :
    s.keysReady = s.sched.keyFifo.length := by
  have all : ∀ c ∈ s.sched.keyFifo.take s.sched.keyFifo.length, s.charMember c = true := fun c _ =>
    (s.charMember_iff c).2 (absurd · other)
  exact Nat.le_antisymm (List.takeWhile_sublist _).length_le ((le_length_takeWhile_iff (Nat.le_refl _)).2 all)

theorem State.le_keysReady_iff {s : State} (clearing : s.sup.state = .clearing) {n : Nat}
    (inside : n ≤ s.sched.keyFifo.length) : n ≤ s.keysReady ↔
      ∀ c ∈ s.sched.keyFifo.take n, ∃ set, s.sup.clearing = some set ∧ c.entry ∈ set.chars := by
  rw [State.keysReady, le_length_takeWhile_iff inside]
  simp only [State.charMember_iff, clearing, forall_const]

theorem State.chainHeld_iff (s : State) (h : SlotId) :
    s.chainHeld h = true ↔ ∃ m ∈ s.members h, (s.slot m).hold = true := by
  simp [State.chainHeld]

/-- A chain's turn as it begins (R89), before a PLAIN chain without a byte to send is complete. -/
def State.chainBegun (s : State) (q : QueuedChain) : State :=
  { s.chainRequest q.head .send [.queued] .active none with
    sched := { s.sched with
      sendQueue := s.sched.sendQueue.filter fun r => r.head ≠ q.head
      turn := .chain ⟨q.head, q.entry, q.head, if (s.slot q.head).framing = .plain then .plain 0 else .between true⟩
      holdWait := none
      withdrawalPending := false
      lastTurn := .chain
      lastChainPort := ((s.slot q.head).owner).getD s.sched.lastChainPort } }

theorem State.beginChain_eq (s : State) (q : QueuedChain) : s.beginChain q =
    if (s.slot q.head).framing = .plain ∧ (s.chainBegun q).plainBytes q.head = []
      then (s.chainBegun q).completeChain q.head else s.chainBegun q := by
  unfold State.beginChain
  simp only [State.chainRequest_sched, Bool.and_eq_true, decide_eq_true_eq, List.isEmpty_iff]
  rfl

section Turns

variable {s : State} {q : QueuedChain} {x : Option ChainTurn}

theorem State.startChain_held (held : ∃ m ∈ s.members q.head, (s.slot m).hold = true) : s.startChain q =
    { s with sched.holdWait := some ⟨.chain q.head, some (s.settings.holdTimeout * 1000)⟩ } := by
  rw [State.startChain, if_pos ((s.chainHeld_iff q.head).2 held)]
  rfl

theorem State.startChain_free (free : ∀ m ∈ s.members q.head, (s.slot m).hold = false) :
    s.startChain q = s.beginChain q := by
  have none : ¬s.chainHeld q.head = true := fun held => by
    obtain ⟨m, mem, hold⟩ := (s.chainHeld_iff q.head).1 held
    simp [free m mem] at hold
  rw [State.startChain, if_neg none]

theorem State.chooseAnswerback_held (held : (s.slot 0).hold = true) : s.chooseAnswerback x =
    { s with sched.holdWait := some ⟨.answerback, some (s.settings.holdTimeout * 1000)⟩ } := by
  rw [State.chooseAnswerback, if_pos held]
  rfl

theorem State.chooseAnswerback_free (free : (s.slot 0).hold = false) :
    s.chooseAnswerback x = s.beginAnswerback x := by
  rw [State.chooseAnswerback, if_neg (by simp [free])]

theorem State.chooseTurn_answerback (owed : s.sched.answerbackPending = true) :
    s.chooseTurn = some (s.chooseAnswerback none) := by
  rw [State.chooseTurn, if_pos owed]

theorem State.chooseTurn_xoff (clear : s.sched.answerbackPending = false) (stopped : s.sched.remoteFlow = .xoff) :
    s.chooseTurn = none := by
  rw [State.chooseTurn, if_neg (by simp [clear]), if_pos stopped]

variable (clear : s.sched.answerbackPending = false) (flowing : s.sched.remoteFlow = .xon)

include clear flowing

theorem State.chooseTurn_none (idle : s.keysReady = 0) (none : s.selectChain = none) :
    s.chooseTurn = .none := by
  rw [State.chooseTurn, if_neg (by simp [clear]), if_neg (by simp [flowing])]
  simp only [idle, none]

theorem State.chooseTurn_keys (ready : s.keysReady ≠ 0) (none : s.selectChain = none) :
    s.chooseTurn = some s.beginKeys := by
  obtain ⟨n, keys⟩ := Nat.exists_eq_succ_of_ne_zero ready
  rw [State.chooseTurn, if_neg (by simp [clear]), if_neg (by simp [flowing])]
  simp only [keys, none]

theorem State.chooseTurn_chain (idle : s.keysReady = 0) (chain : s.selectChain = some q) :
    s.chooseTurn = some (s.startChain q) := by
  rw [State.chooseTurn, if_neg (by simp [clear]), if_neg (by simp [flowing])]
  simp only [idle, chain]

theorem State.chooseTurn_both (ready : s.keysReady ≠ 0) (chain : s.selectChain = some q) : s.chooseTurn =
    if keysFirst s.settings.turnMode s.sched.lastTurn then some s.beginKeys else some (s.startChain q) := by
  obtain ⟨n, keys⟩ := Nat.exists_eq_succ_of_ne_zero ready
  rw [State.chooseTurn, if_neg (by simp [clear]), if_neg (by simp [flowing])]
  simp only [keys, chain]

end Turns

/-- Settles O41: the eligible chains and the selection rule, then the beginning of each turn, then the choice. -/
theorem turnsAreChosenByRule : Obligations.TurnsAreChosenByRule := by
  refine ⟨fun s => ?_, fun s => ⟨State.keysReady_open, fun clearing => ⟨?_, fun n => State.le_keysReady_iff clearing⟩⟩,
    fun s q => ?_, fun s x keep is => ?_, fun s => ?_⟩
  · intro eligible other
    have listed : ∀ x, x ∈ s.eligibleChains ↔ eligible x := s.mem_eligibleChains_iff
    refine ⟨fun ⟨x, is⟩ => pickUnit_ne_none _ _ _ _ (List.ne_nil_of_mem ((listed x).2 is)), fun q selected => ?_⟩
    obtain ⟨mem, best⟩ := pickUnit_some selected
    exact ⟨(listed q).1 mem, fun x is => best x ((listed x).2 is)⟩
  · exact (List.takeWhile_sublist _).length_le
  · intro plain begun
    refine ⟨State.startChain_held, fun free => ⟨fun sends => ?_, fun isPlain empty => ?_⟩⟩
    · rw [State.startChain_free free, State.beginChain_eq]
      exact if_neg sends
    · rw [State.startChain_free free, State.beginChain_eq]
      exact if_pos ⟨isPlain, empty⟩
  · intro judged
    refine ⟨State.chooseAnswerback_held, fun free => ?_⟩
    rw [State.chooseAnswerback_free free, keep_eq is answerbackSent_iff]
    rfl
  · intro keys
    refine ⟨State.chooseTurn_answerback, State.chooseTurn_xoff, fun clear flowing => ⟨fun idle none => ?_,
      fun ready none => State.chooseTurn_keys clear flowing ready none, fun idle q chain => ?_,
      fun ready q chain => ⟨fun first => ?_, fun first => ?_⟩⟩⟩
    · exact State.chooseTurn_none clear flowing (not_not.1 idle) none
    · exact State.chooseTurn_chain clear flowing (not_not.1 idle) chain
    · have keysFirst' : keysFirst s.settings.turnMode s.sched.lastTurn = true := by
        rcases first with h | ⟨h, last⟩ <;> simp [keysFirst, *]
      rw [State.chooseTurn_both clear flowing ready chain, if_pos keysFirst']
      rfl
    · have chainFirst : ¬keysFirst s.settings.turnMode s.sched.lastTurn = true := by
        rcases first with h | ⟨h, last⟩ <;> simp [keysFirst, *]
      rw [State.chooseTurn_both clear flowing ready chain, if_neg chainFirst]

/-! ## The timers of the scheduler and of the arbiter (R93, R94, R98, R103, R132, R136) -/

theorem State.replyWait_of {s : State} {ct : ChainTurn} (turn : s.sched.turn = .chain ct) (phase : ct.phase = .reply) :
    s.replyWait = some ct := by
  simp only [State.replyWait, turn, phase, if_true]

/-- A hold wait on a chain given up alerts and masks its owner (R93). -/
theorem State.giveUpChain_owned {s : State} {h : SlotId} {p : Port} (owner : (s.slot h).owner = some p) :
    s.giveUpChain h = { s with
      sched.holdWait := none
      sched.masks := s.sched.masks.set p (some (s.settings.maskTime * 1000)) }.alert p .holdExpired := by
  simp only [State.giveUpChain, owner]
  rfl

theorem State.giveUpPrint_owned {s : State} {h : SlotId} {p : Port} (owner : (s.slot h).owner = some p) :
    s.giveUpPrint h = { s with
      arb.holdWait := none
      arb.masks := s.arb.masks.set p (some (s.settings.maskTime * 1000)) }.alert p .holdExpired := by
  simp only [State.giveUpPrint, owner]
  rfl

/-- Settles O42: each expiry with its timer running. -/
theorem holdMaskAndReplyTimers : Obligations.HoldMaskAndReplyTimers := by
  refine ⟨⟨fun s ct turn phase running => ?_, fun s h w p wait owner => ?_,
    fun s w wait => ⟨fun none => ?_, fun p owner => ?_⟩,
    fun s p masked => ?_, fun s running => ?_⟩, fun s running => ?_, fun s running => ?_, fun s h w p wait owner => ?_,
    fun s p masked => ?_⟩
  · have ran : exec .replyTimerExpired s = .next (s.settleAfter (s.retryRecord ct .noReply)) := by
      show execReplyTimerExpired s = _
      simp only [execReplyTimerExpired, State.replyWait_of turn phase, Option.isSome_iff_ne_none.2 running, if_true]
    rw [ran]
    exact ⟨fun left => by rw [State.retryRecord_again left], fun used => by rw [State.retryRecord_failed used]; rfl⟩
  · show execSendHoldTimerExpired s = _
    simp only [execSendHoldTimerExpired, wait]
    rw [State.giveUpChain_owned owner]
  · show execAnswerbackHoldExpired s = _
    simp only [execAnswerbackHoldExpired, wait, State.giveUpAnswerback, none]
    rfl
  · show execAnswerbackHoldExpired s = _
    simp only [execAnswerbackHoldExpired, wait, State.giveUpAnswerback, owner]
    rfl
  · show Host.Outcome.next (if _ then _ else _) = _
    rw [if_pos (Option.isSome_iff_ne_none.2 masked)]
  · show Host.Outcome.next (if _ then _ else _) = _
    rw [if_pos (Option.isSome_iff_ne_none.2 running)]
    rfl
  · show Host.Outcome.next (if _ then _ else _) = _
    rw [if_pos (show (s.silenceTimer .lds).isSome = true from Option.isSome_iff_ne_none.2 running)]
    rfl
  · show Host.Outcome.next (if _ then _ else _) = _
    rw [if_pos (show (s.silenceTimer .lcs).isSome = true from Option.isSome_iff_ne_none.2 running)]
    rfl
  · show execPrintHoldTimerExpired s = _
    simp only [execPrintHoldTimerExpired, wait]
    rw [State.giveUpPrint_owned owner]
  · show Host.Outcome.next (if _ then _ else _) = _
    rw [if_pos (Option.isSome_iff_ne_none.2 masked)]


end Sys2Proof.Machine
end

section
/-! PROOF. The keyboard (chapter 6): the routing of codes, repeats, the scan with its releases and presses, and the
keymap. -/

namespace Sys2Proof.Machine

open Sys2Proof

/-! ## Routing (R118, R119, R121) -/

section Route

variable {s : State} {p : Port} {code : Byte} {c : KeyClass} {m : Modifiers} {again : Bool}

theorem State.routeKey_free (free : s.kbd.focus = none) : s.routeKey code c m again = s.beep := by
  simp only [State.routeKey, free]

theorem State.routeKey_queue (focus : s.kbd.focus = some p)
    (queued : c = .function ∨ s.settings.keyMode.get p = .queue) :
    s.routeKey code c m again = s.keyToQueue p code c m again := by
  simp only [State.routeKey, focus]
  by_cases function : c = .function
  · rw [if_pos function]
  · rw [if_neg function]
    simp only [queued.resolve_left function]

theorem State.routeKey_line (focus : s.kbd.focus = some p) (other : c ≠ .function)
    (mode : s.settings.keyMode.get p = .line) : s.routeKey code c m again = s.keyToLine code false := by
  simp only [State.routeKey, focus, if_neg other, mode]

theorem State.routeKey_lineCopy (focus : s.kbd.focus = some p) (other : c ≠ .function)
    (mode : s.settings.keyMode.get p = .lineCopy) : s.routeKey code c m again = s.keyToLine code true := by
  simp only [State.routeKey, focus, if_neg other, mode]

theorem State.keyToQueue_full (full : 16 ≤ s.kbd.queue.length) :
    s.keyToQueue p code c m again = s.beep.alertBoth .keyOverflow := by
  rw [State.keyToQueue, if_neg (by omega)]
  rfl

/-- An entry that the key queue takes is announced to its port, and counted (R121, R123). -/
theorem State.keyToQueue_enters (focus : s.kbd.focus = some p) (room : s.kbd.queue.length < 16) :
    s.keyToQueue p code c m again =
      { s with kbd.queue := s.kbd.queue ++ [KeyEntry.mk code c m again p] }.raise p
        (.keys .entry (some p) (s.keyCount p + 1)) := by
  rw [State.keyToQueue, if_pos room]
  simp only [State.raiseKeys, focus, State.keyCount, List.filter_append, List.length_append]
  simp

theorem State.keyToLine_full {copy : Bool} (full : 32 ≤ s.sched.keyFifo.length) :
    s.keyToLine code copy = s.beep.alertBoth .keyOverflow := by
  rw [State.keyToLine, if_neg (by omega)]
  rfl

theorem State.keyToLine_line (room : s.sched.keyFifo.length < 32) : s.keyToLine code false = s.enterKeyFifo code := by
  rw [State.keyToLine, if_pos room]
  rfl

theorem State.keyToLine_copied (room : s.sched.keyFifo.length < 32) (copied : s.arb.copyBuffer.length < 160) :
    s.keyToLine code true = { s.enterKeyFifo code with
      arb.copyBuffer := s.arb.copyBuffer ++ [code], arb.silence := ⟨some 3000000, false⟩ } := by
  have copied' : (s.enterKeyFifo code).arb.copyBuffer.length < 160 := copied
  rw [State.keyToLine, if_pos room]
  simp only [Bool.not_true, Bool.false_eq_true, if_false, if_pos copied']
  rfl

theorem State.keyToLine_notCopied (room : s.sched.keyFifo.length < 32) (full : 160 ≤ s.arb.copyBuffer.length) :
    s.keyToLine code true = (s.enterKeyFifo code).alertBoth .keyOverflow := by
  have full' : ¬(s.enterKeyFifo code).arb.copyBuffer.length < 160 := Nat.not_lt.2 full
  rw [State.keyToLine, if_pos room]
  simp only [Bool.not_true, Bool.false_eq_true, if_false, if_neg full']

/-- Where a produced code goes (R118, R119, R121). -/
theorem State.routeKey_focused (focus : s.kbd.focus = some p) :
    let t := s.routeKey code c m again
    let lost := s.beep.alertBoth .keyOverflow
    ((c = .function ∨ s.settings.keyMode.get p = .queue) →
        (16 ≤ s.kbd.queue.length → t = lost)
        ∧ (s.kbd.queue.length < 16 → t = { s with
          kbd.queue := s.kbd.queue ++ [KeyEntry.mk code c m again p] }.raise p
            (.keys .entry (some p) (s.keyCount p + 1))))
      ∧ (c ≠ .function → s.settings.keyMode.get p ≠ .queue →
        (32 ≤ s.sched.keyFifo.length → t = lost)
        ∧ (s.sched.keyFifo.length < 32 →
          let sent : State := { s with
            sched.issued := s.sched.issued + 1
            sched.keyFifo := s.sched.keyFifo ++ [⟨code, s.sched.issued + 1⟩] }
          (s.settings.keyMode.get p = .line → t = sent)
          ∧ (s.settings.keyMode.get p = .lineCopy → s.arb.copyBuffer.length < 160 → t = { sent with
            arb.copyBuffer := s.arb.copyBuffer ++ [code], arb.silence := ⟨some 3000000, false⟩ })
          ∧ (s.settings.keyMode.get p = .lineCopy → 160 ≤ s.arb.copyBuffer.length →
            t = sent.alertBoth .keyOverflow))) := by
  intro t lost
  refine ⟨fun queued => ?_, fun other line => ⟨fun full => ?_, fun room => ⟨fun mode => ?_, fun mode copied => ?_,
    fun mode full => ?_⟩⟩⟩
  · have queue : t = s.keyToQueue p code c m again := State.routeKey_queue focus queued
    rw [queue]
    exact ⟨State.keyToQueue_full, State.keyToQueue_enters focus⟩
  · cases mode : s.settings.keyMode.get p with
    | queue => exact absurd mode line
    | line => exact (State.routeKey_line focus other mode).trans (State.keyToLine_full full)
    | lineCopy => exact (State.routeKey_lineCopy focus other mode).trans (State.keyToLine_full full)
  · exact (State.routeKey_line focus other mode).trans (State.keyToLine_line room)
  · exact (State.routeKey_lineCopy focus other mode).trans (State.keyToLine_copied room copied)
  · exact (State.routeKey_lineCopy focus other mode).trans (State.keyToLine_notCopied room full)

end Route

theorem exec_repeatTimerExpired {s : State} {r : RepeatKey} (key : s.kbd.repeatKey = some r)
    (running : s.kbd.repeatTimer ≠ none) : exec .repeatTimerExpired s =
      .next (s.settleAfter ({ s with kbd.repeatTimer := some r.interval }.routeKey r.code r.cls r.mods true)) := by
  show execRepeatTimerExpired s = _
  simp only [execRepeatTimerExpired, key, Option.isSome_iff_ne_none.2 running, if_true, State.produceRepeat]

/-- Settles O47: the routing of a code, and of a repeat's with its timer restarted. -/
theorem repeatsAreRouted : Obligations.RepeatsAreRouted := by
  refine ⟨fun s code c m again => ⟨State.routeKey_free, fun p focus => State.routeKey_focused focus⟩,
    fun s r key running => ?_⟩
  intro s1
  rw [exec_repeatTimerExpired key running]
  have next : ∀ {t u : State}, t = u → (.next (s.settleAfter t) : Host.Outcome State Fault Refusal)
      = .next (s.settleAfter u) := fun h => by rw [h]
  refine ⟨fun free => next (State.routeKey_free (s := s1) free), fun p focus => ?_⟩
  obtain ⟨toQueue, toLine⟩ := State.routeKey_focused (s := s1) (code := r.code) (c := r.cls) (m := r.mods)
    (again := true) focus
  refine ⟨fun queued => ⟨fun room => next ((toQueue queued).2 room), fun full => next ((toQueue queued).1 full)⟩,
    fun other line => ⟨fun full => next ((toLine other line).1 full), fun room => ?_⟩⟩
  obtain ⟨sent, copied, notCopied⟩ := (toLine other line).2 room
  exact ⟨fun mode => next (sent mode), fun mode copies => next (copied mode copies),
    fun mode full => next (notCopied mode full)⟩

/-! ## The keymap (R115, section 11.8) -/

theorem keyAt_of {p : KeyPos} {k : Nat} (place : p.val = k) : keyAt p = keymap.getD k .absent := by
  rw [keyAt, place]

theorem keyAt_eq_shift_iff : ∀ p : KeyPos, keyAt p = .shift ↔ p = 70 ∨ p = 79 := by decide

theorem keyAt_eq_ctrl_iff : ∀ p : KeyPos, keyAt p = .ctrl ↔ p = 61 := by decide

theorem edit_listed : ∀ e ∈ [(8, (0x1B : Byte)), (9, 0x08), (20, 0x09), (59, 0x0D)],
    keymap.getD e.1 .absent = .edit e.2 := by decide

/-- The positions of the letters, in the order of the alphabet. -/
def letterPositions : List Nat :=
  [21, 51, 32, 41, 33, 42, 43, 44, 38, 45, 46, 47, 53, 52, 39, 40, 11, 34, 22, 35, 37, 50, 12, 31, 36, 30]

theorem letter_listed : ∀ n : Fin letterPositions.length, keymap.getD letterPositions[n] .absent =
    .char (BitVec.ofNat 8 (0x61 + n)) (BitVec.ofNat 8 (0x41 + n)) := by decide

theorem char_listed : ∀ e ∈ [(10, (0x31 : Byte), (0x21 : Byte)), (13, 0x32, 0x40), (14, 0x33, 0x23),
    (15, 0x34, 0x24), (16, 0x35, 0x25), (17, 0x36, 0x5E), (18, 0x37, 0x26), (19, 0x38, 0x2A), (23, 0x39, 0x28),
    (24, 0x30, 0x29), (25, 0x2D, 0x5F), (26, 0x3D, 0x2B), (27, 0x5B, 0x7B), (28, 0x5D, 0x7D), (29, 0x60, 0x7E),
    (48, 0x3B, 0x3A), (49, 0x27, 0x22), (54, 0x2C, 0x3C), (55, 0x2E, 0x3E), (56, 0x2F, 0x3F), (57, 0x5C, 0x7C),
    (58, 0x20, 0x20)], keymap.getD e.1 .absent = .char e.2.1 e.2.2 := by decide

theorem control_listed : ∀ e ∈ [(60, Key.caps), (61, .ctrl), (62, .feed), (63, .breakKey), (64, .select),
    (70, .shift), (79, .shift)], keymap.getD e.1 .absent = e.2 := by decide

/-- The keymap, class by class. -/
theorem keyAt_classes (p : KeyPos) :
    (∀ k < 8, p.val = k → keyAt p = .function (BitVec.ofNat 8 (0x81 + k)))
    ∧ (∀ k code, (k, code) ∈ [(8, (0x1B : Byte)), (9, 0x08), (20, 0x09), (59, 0x0D)] → p.val = k → keyAt p = .edit code)
    ∧ (∀ k n, [21, 51, 32, 41, 33, 42, 43, 44, 38, 45, 46, 47, 53, 52, 39, 40, 11, 34, 22, 35, 37, 50, 12, 31, 36,
        30][n]? = some k → p.val = k → keyAt p = .char (BitVec.ofNat 8 (0x61 + n)) (BitVec.ofNat 8 (0x41 + n)))
    ∧ (∀ k u v, (k, u, v) ∈ [(10, (0x31 : Byte), (0x21 : Byte)), (13, 0x32, 0x40), (14, 0x33, 0x23), (15, 0x34, 0x24),
        (16, 0x35, 0x25), (17, 0x36, 0x5E), (18, 0x37, 0x26), (19, 0x38, 0x2A), (23, 0x39, 0x28), (24, 0x30, 0x29),
        (25, 0x2D, 0x5F), (26, 0x3D, 0x2B), (27, 0x5B, 0x7B), (28, 0x5D, 0x7D), (29, 0x60, 0x7E), (48, 0x3B, 0x3A),
        (49, 0x27, 0x22), (54, 0x2C, 0x3C), (55, 0x2E, 0x3E), (56, 0x2F, 0x3F), (57, 0x5C, 0x7C), (58, 0x20, 0x20)] →
      p.val = k → keyAt p = .char u v)
    ∧ (∀ k key, (k, key) ∈ [(60, Key.caps), (61, .ctrl), (62, .feed), (63, .breakKey), (64, .select), (70, .shift),
        (79, .shift)] → p.val = k → keyAt p = key)
    ∧ ((65 ≤ p.val ∧ p.val ≤ 69) ∨ (71 ≤ p.val ∧ p.val ≤ 78) → keyAt p = .absent) := by
  refine ⟨fun k below place => ?_, fun k code listed place => ?_, fun k n listed place => ?_,
    fun k u v listed place => ?_, fun k key listed place => ?_, fun inside => ?_⟩
  · rw [keyAt_of place]
    interval_cases k <;> rfl
  · exact (keyAt_of place).trans (edit_listed (k, code) listed)
  · have inside : n < 26 := (List.getElem?_eq_some_iff.1 listed).1
    rw [keyAt_of place, ← Option.some_inj.1 ((List.getElem?_eq_getElem inside).symm.trans listed)]
    exact letter_listed ⟨n, inside⟩
  · exact (keyAt_of place).trans (char_listed (k, u, v) listed)
  · exact (keyAt_of place).trans (control_listed (k, key) listed)
  · rw [keyAt]
    rcases inside with ⟨least, most⟩ | ⟨least, most⟩ <;> interval_cases p.val <;> rfl

/-! ## Releases (R111, R112, R117) -/

theorem Debounce.observe_eq (r : Debounce) (seen : Bool) : r.observe seen =
    if seen = r.down then ⟨r.down, 0⟩ else if r.agree < 2 then ⟨r.down, r.agree + 1⟩ else ⟨seen, 0⟩ := by
  have few : r.agree + 1 < 3 ↔ r.agree < 2 := by omega
  simp only [Debounce.observe, few]

/-- Whether the repeat under way belongs to a position that leaves the down set. -/
def Keyboard.stops (k : Keyboard) (gone : KeyPos → Bool) : Bool :=
  (k.repeatKey.map fun r => k.down.contains r.position && gone r.position).getD false

/-- The positions of a test gone from the down set, and the repeat with them (R112, R117). -/
def Keyboard.lift (k : Keyboard) (gone : KeyPos → Bool) : Keyboard :=
  { k with
    down := k.down.filter fun p => !gone p
    repeatKey := if k.stops gone then none else k.repeatKey
    repeatTimer := if k.stops gone then none else k.repeatTimer }

/-- None of the down positions gone, nothing changes. -/
theorem Keyboard.lift_none {k : Keyboard} {gone : KeyPos → Bool} (none : ∀ p ∈ k.down, gone p = false) :
    k.lift gone = k := by
  have stays : k.stops gone = false := by
    unfold Keyboard.stops
    cases k.repeatKey with
    | none => rfl
    | some r =>
      show (k.down.contains r.position && gone r.position) = false
      by_cases down : r.position ∈ k.down
      · simp [none _ down]
      · simp [down]
  rw [Keyboard.lift, stays, List.filter_eq_self.2 fun p mem => by rw [none p mem]; rfl]
  rfl

theorem Keyboard.release_eq_lift (k : Keyboard) (p : KeyPos) : k.release p = k.lift fun q => q = p := by
  by_cases down : p ∈ k.down
  · have contained : k.down.contains p = true := by simpa using down
    rw [Keyboard.release, if_pos contained, Keyboard.lift, Keyboard.stops]
    cases key : k.repeatKey with
    | none => simp
    | some r =>
      by_cases same : r.position = p
      · simp [same, down, Keyboard.endRepeat]
      · simp [same]
  · rw [Keyboard.release, if_neg (by simpa using down), Keyboard.lift_none]
    intro q mem
    simp only [decide_eq_false_iff_not]
    rintro rfl
    exact down mem

theorem Keyboard.lift_lift (k : Keyboard) (first second : KeyPos → Bool) :
    (k.lift first).lift second = k.lift fun p => first p || second p := by
  have down : (k.down.filter fun p => !first p).filter (fun p => !second p)
      = k.down.filter fun p => !(first p || second p) := by
    rw [List.filter_filter]
    congr 1
    funext p
    cases first p <;> simp
  have key : ((k.lift first).stops second || k.stops first) = k.stops fun p => first p || second p := by
    unfold Keyboard.stops Keyboard.lift Keyboard.stops
    cases k.repeatKey with
    | none => rfl
    | some r =>
      by_cases held : r.position ∈ k.down
      · cases one : first r.position <;> simp [held, one]
      · simp [held]
  have field : ∀ {α : Type} (x : Option α),
      (if (k.lift first).stops second then none else if k.stops first then none else x)
        = if k.stops (fun p => first p || second p) then none else x := fun x => by
    rw [← key]
    cases (k.lift first).stops second <;> simp
  show ({ k with
    down := (k.down.filter fun p => !first p).filter fun p => !second p
    repeatKey := if (k.lift first).stops second then none else if k.stops first then none else k.repeatKey
    repeatTimer := if (k.lift first).stops second then none else if k.stops first then none else k.repeatTimer } :
    Keyboard) = _
  rw [down, field, field]
  rfl

theorem Keyboard.releases_eq_lift (l : List KeyPos) (k : Keyboard) :
    l.foldl Keyboard.release k = k.lift fun p => decide (p ∈ l) := by
  induction l generalizing k with
  | nil => exact (Keyboard.lift_none fun _ _ => by simp).symm
  | cons p l ih =>
    rw [List.foldl_cons, ih, Keyboard.release_eq_lift, Keyboard.lift_lift]
    congr 1
    funext q
    simp

/-! ## What the scan keeps of the keyboard -/

/-- The part of the keyboard that a press reaches by the down set alone. -/
def Keyboard.scanned (k : Keyboard) : Timer × Vector Debounce 80 × List KeyPos := (k.scanTimer, k.debounce, k.down)

theorem State.keyToQueue_scanned (s : State) (p : Port) (code : Byte) (c : KeyClass) (m : Modifiers) (again : Bool) :
    (s.keyToQueue p code c m again).kbd.scanned = s.kbd.scanned := by
  unfold State.keyToQueue
  split
  · rw [State.raiseKeys_kbd]
    rfl
  · rw [State.loseKey, State.alertBoth_kbd, State.beep_kbd]

theorem State.keyToLine_kbd (s : State) (code : Byte) (copy : Bool) : (s.keyToLine code copy).kbd = s.kbd := by
  unfold State.keyToLine
  split
  · dsimp only
    split_ifs
    · rfl
    · rfl
    · rw [State.alertBoth_kbd]
      rfl
  · rw [State.loseKey, State.alertBoth_kbd, State.beep_kbd]

theorem State.routeKey_scanned (s : State) (code : Byte) (c : KeyClass) (m : Modifiers) (again : Bool) :
    (s.routeKey code c m again).kbd.scanned = s.kbd.scanned := by
  unfold State.routeKey
  split
  · rw [State.beep_kbd]
  · split
    · exact s.keyToQueue_scanned _ _ _ _ _
    · split
      · exact s.keyToQueue_scanned _ _ _ _ _
      · rw [State.keyToLine_kbd]
      · rw [State.keyToLine_kbd]

theorem State.selectFocus_scanned (s : State) (p : Port) : (s.selectFocus p).kbd.scanned = s.kbd.scanned := by
  unfold State.selectFocus
  dsimp only
  split
  · rw [State.raiseKeys_kbd, State.raiseKeys_kbd]
    rfl
  · rw [State.raiseKeys_kbd]
    rfl

theorem State.selectKey_scanned (s : State) : s.selectKey.kbd.scanned = s.kbd.scanned := by
  unfold State.selectKey
  split
  · split
    · exact s.selectFocus_scanned _
    · rw [State.beep_kbd]
      rfl
  · split_ifs
    · exact s.selectFocus_scanned _
    · exact s.selectFocus_scanned _
    · rw [State.beep_kbd]
      rfl

theorem State.feedKey_kbd (s : State) : s.feedKey.kbd = s.kbd := by
  unfold State.feedKey
  split
  · rfl
  · rw [State.beep_kbd]

theorem State.breakKey_kbd (s : State) : s.breakKey.kbd = s.kbd := by
  unfold State.breakKey State.requestBreak
  split
  · split <;> rfl
  · rw [State.beep_kbd]

/-- A press joins the down set (R112). -/
theorem State.pressKey_scanned (s : State) (p : KeyPos) :
    (s.pressKey p).kbd.scanned = (s.kbd.scanTimer, s.kbd.debounce, s.kbd.down ++ [p]) := by
  unfold State.pressKey
  dsimp only
  split
  · rfl
  · rfl
  · rfl
  · rfl
  · rw [State.feedKey_kbd]; rfl
  · rw [State.breakKey_kbd]; rfl
  · rw [State.selectKey_scanned]; rfl
  · rw [State.routeKey_scanned]; rfl
  · rw [State.routeKey_scanned]; rfl
  · rw [State.routeKey_scanned]; rfl

theorem State.tryPress_cases (s : State) (p : KeyPos) : (s.tryPress p).kbd.scanned = s.kbd.scanned
    ∨ (s.kbd.rolloverPasses p = true
      ∧ (s.tryPress p).kbd.scanned = (s.kbd.scanTimer, s.kbd.debounce, s.kbd.down ++ [p])) := by
  unfold State.tryPress
  split
  case isTrue passes =>
    rw [State.settleAfter_kbd]
    exact .inr ⟨(Bool.and_eq_true_iff.1 passes).1, s.pressKey_scanned p⟩
  case isFalse => exact .inl rfl

theorem Keyboard.nonModifiers_append {k : Keyboard} {p : KeyPos} (passes : k.rolloverPasses p = true)
    (few : k.nonModifiers ≤ 4) :
    ((k.down ++ [p]).filter fun q => !(keyAt q).isModifier).length ≤ 4 := by
  simp only [Keyboard.rolloverPasses, Bool.or_eq_true, decide_eq_true_eq] at passes
  rw [List.filter_append, List.length_append]
  cases modifier : (keyAt p).isModifier with
  | true =>
    rw [Keyboard.nonModifiers] at few
    simpa [modifier] using few
  | false =>
    have below : k.nonModifiers < 4 := passes.resolve_left (by simp [modifier])
    have one : ([p].filter fun q => !(keyAt q).isModifier).length ≤ 1 := List.length_filter_le _ _
    have same : k.nonModifiers = (k.down.filter fun q => !(keyAt q).isModifier).length := rfl
    omega

/-- What a row of tested candidates leaves of the scan (R112, R113). -/
theorem State.tryPresses_scanned (l : List KeyPos) (u : State) :
    let t := l.foldl State.tryPress u
    t.kbd.scanTimer = u.kbd.scanTimer ∧ t.kbd.debounce = u.kbd.debounce
      ∧ (∀ p ∈ t.kbd.down, p ∈ u.kbd.down ∨ p ∈ l) ∧ (u.kbd.nonModifiers ≤ 4 → t.kbd.nonModifiers ≤ 4) := by
  induction l generalizing u with
  | nil => exact ⟨rfl, rfl, fun _ mem => .inl mem, id⟩
  | cons p l ih =>
    obtain ⟨timer, debounce, down, few⟩ := ih (u.tryPress p)
    have step : (u.tryPress p).kbd.scanTimer = u.kbd.scanTimer ∧ (u.tryPress p).kbd.debounce = u.kbd.debounce
        ∧ (∀ q ∈ (u.tryPress p).kbd.down, q ∈ u.kbd.down ∨ q = p)
        ∧ (u.kbd.nonModifiers ≤ 4 → (u.tryPress p).kbd.nonModifiers ≤ 4) := by
      rcases u.tryPress_cases p with same | ⟨passes, pressed⟩
      · obtain ⟨t, d, k⟩ : _ ∧ _ ∧ _ := by simpa only [Keyboard.scanned, Prod.mk.injEq] using same
        exact ⟨t, d, fun q mem => .inl (k ▸ mem), fun few => by rw [Keyboard.nonModifiers, k]; exact few⟩
      · obtain ⟨t, d, k⟩ : _ ∧ _ ∧ _ := by simpa only [Keyboard.scanned, Prod.mk.injEq] using pressed
        exact ⟨t, d, fun q mem => by simpa [k] using mem, fun few => by
          rw [Keyboard.nonModifiers, k]; exact Keyboard.nonModifiers_append passes few⟩
    refine ⟨timer.trans step.1, debounce.trans step.2.1, fun q mem => ?_, few ∘ step.2.2.2⟩
    rcases down q mem with before | later
    · exact (step.2.2.1 q before).imp_right (by rintro rfl; exact List.mem_cons_self)
    · exact .inr (List.mem_cons_of_mem p later)

theorem mem_releasedBetween_iff (old new : Vector Debounce 80) (p : KeyPos) :
    p ∈ releasedBetween old new ↔ (old[p].down && !new[p].down) = true := by
  simp [releasedBetween]

/-- A scan: the observations, the releases, then the candidates in ascending order (R110 to R114). -/
theorem State.scanKeys_eq (s : State) (down : BitVec 80) :
    let k := s.kbd.observe down
    s.scanKeys down = ((k.lift fun p => s.kbd.debounce[p].down && !k.debounce[p].down).candidates).foldl State.tryPress
      { s with kbd := k.lift fun p => s.kbd.debounce[p].down && !k.debounce[p].down } := by
  intro k
  have gone : (fun p => decide (p ∈ releasedBetween s.kbd.debounce k.debounce))
      = fun p : KeyPos => s.kbd.debounce[p].down && !k.debounce[p].down := by
    funext p
    exact Bool.eq_iff_iff.2 (decide_eq_true_iff.trans (mem_releasedBetween_iff _ _ p))
  rw [← gone, ← Keyboard.releases_eq_lift]
  rfl

/-! ## Presses (R115 to R117, R120) -/

section Press

variable {s : State} {p : KeyPos}

/-- The modifiers of a press of a key that is none (R116). -/
theorem State.press_modifiers (shift : keyAt p ≠ .shift) (ctrl : keyAt p ≠ .ctrl) :
    { s with kbd.down := s.kbd.down ++ [p] }.kbd.modifiers =
      ⟨decide ((70 : KeyPos) ∈ s.kbd.down ∨ (79 : KeyPos) ∈ s.kbd.down), decide ((61 : KeyPos) ∈ s.kbd.down),
        s.kbd.caps⟩ := by
  have shiftOn : ((s.kbd.down ++ [p]).any fun q => keyAt q = .shift)
      = decide ((70 : KeyPos) ∈ s.kbd.down ∨ (79 : KeyPos) ∈ s.kbd.down) := by
    have other : ¬(p = 70 ∨ p = 79) := shift ∘ (keyAt_eq_shift_iff p).2
    rw [List.any_append, Bool.eq_iff_iff]
    simp only [List.any_eq_true, Bool.or_eq_true, decide_eq_true_eq, List.mem_singleton, exists_eq_left,
      keyAt_eq_shift_iff, other, or_false]
    exact ⟨fun ⟨q, mem, is⟩ => is.imp (by rintro rfl; exact mem) (by rintro rfl; exact mem),
      fun held => held.elim (fun mem => ⟨70, mem, .inl rfl⟩) fun mem => ⟨79, mem, .inr rfl⟩⟩
  have ctrlOn : ((s.kbd.down ++ [p]).any fun q => keyAt q = .ctrl) = decide ((61 : KeyPos) ∈ s.kbd.down) := by
    have other : p ≠ 61 := ctrl ∘ (keyAt_eq_ctrl_iff p).2
    rw [List.any_append, Bool.eq_iff_iff]
    simp only [List.any_eq_true, Bool.or_eq_true, decide_eq_true_eq, List.mem_singleton, exists_eq_left,
      keyAt_eq_ctrl_iff, other, or_false]
    exact ⟨fun ⟨q, mem, is⟩ => is ▸ mem, fun mem => ⟨61, mem, rfl⟩⟩
  simp only [Keyboard.modifiers, Keyboard.shiftOn, Keyboard.ctrlOn, shiftOn, ctrlOn]

/-- The code of a CHAR press (R116). -/
theorem charCode_eq (m : Modifiers) (u v : Byte) : charCode m u v =
    if 0x61 ≤ u.toNat ∧ u.toNat ≤ 0x7A then
      (if m.ctrl then (if m.shift || m.caps then v else u) &&& 0x1F else if m.shift || m.caps then v else u)
    else if m.shift then v else u := by
  have letter : isLetter u = true ↔ 0x61 ≤ u.toNat ∧ u.toNat ≤ 0x7A := by
    simp [isLetter, BitVec.le_def]
  simp only [charCode, letter]

end Press

/-- What a press does, by the class of its key. -/
theorem State.pressKey_classes (s : State) (p : KeyPos) :
    let m : Modifiers := ⟨decide ((70 : KeyPos) ∈ s.kbd.down ∨ (79 : KeyPos) ∈ s.kbd.down),
      decide ((61 : KeyPos) ∈ s.kbd.down), s.kbd.caps⟩
    let pressed : State := { s with kbd.down := s.kbd.down ++ [p] }
    let ended : State := { pressed with kbd.repeatKey := none, kbd.repeatTimer := none }
    let repeating (code : Byte) (c : KeyClass) : State := { pressed with
      kbd.repeatKey := some ⟨p, code, c, m, 1000000 / s.settings.repeatRate⟩
      kbd.repeatTimer := some (s.settings.repeatDelay * 1000) }
    (keyAt p = .shift ∨ keyAt p = .ctrl → s.pressKey p = pressed)
    ∧ (keyAt p = .caps → s.pressKey p = { pressed with kbd.caps := !s.kbd.caps })
    ∧ (keyAt p = .absent → s.pressKey p = ended)
    ∧ (keyAt p = .feed → s.pressKey p = ended.feedKey)
    ∧ (keyAt p = .breakKey → s.pressKey p = ended.breakKey)
    ∧ (∀ code, keyAt p = .function code → s.pressKey p = ended.routeKey code .function m false)
    ∧ (∀ code, keyAt p = .edit code → s.pressKey p = (repeating code .edit).routeKey code .edit m false)
    ∧ ∀ u v, keyAt p = .char u v →
      s.pressKey p = (repeating (charCode m u v) .char).routeKey (charCode m u v) .char m false := by
  intro m pressed ended repeating
  have mods : keyAt p ≠ .shift → keyAt p ≠ .ctrl → pressed.kbd.modifiers = m := State.press_modifiers
  have repeats : ∀ code c, pressed.startRepeat p code c m = repeating code c := fun _ _ => rfl
  have ends : pressed.endRepeat = ended := rfl
  refine ⟨fun key => ?_, fun key => ?_, fun key => ?_, fun key => ?_, fun key => ?_, fun code key => ?_,
    fun code key => ?_, fun u v key => ?_⟩
  · rcases key with key | key <;> simp only [State.pressKey, key] <;> rfl
  · simp only [State.pressKey, key]; rfl
  · simp only [State.pressKey, key]; rfl
  · simp only [State.pressKey, key]; rfl
  · simp only [State.pressKey, key]; rfl
  · rw [← ends, ← mods (by simp [key]) (by simp [key])]
    simp only [State.pressKey, key]; rfl
  · rw [← repeats, ← mods (by simp [key]) (by simp [key])]
    simp only [State.pressKey, key]; rfl
  · rw [← repeats, ← mods (by simp [key]) (by simp [key])]
    simp only [State.pressKey, key]; rfl

theorem State.feedKey_room {s : State} (room : s.arb.feeds < 9) :
    s.feedKey = { s with arb.feeds := s.arb.feeds + 1 } := by
  rw [State.feedKey, if_pos room]

theorem State.feedKey_full {s : State} (full : 9 ≤ s.arb.feeds) : s.feedKey = s.beep := by
  rw [State.feedKey, if_neg (by omega)]

theorem State.breakKey_served {s : State} (served : s.sup.state = .online ∨ s.sup.state = .clearing) :
    s.breakKey = { s with
      sched.breakRequest := if s.sched.breakRequest = .none then .requested else s.sched.breakRequest } := by
  rw [State.breakKey, if_pos (s.serving_iff.2 served), State.requestBreak]
  split <;> rfl

theorem State.breakKey_other {s : State} (online : s.sup.state ≠ .online) (clearing : s.sup.state ≠ .clearing) :
    s.breakKey = s.beep := by
  rw [State.breakKey, if_neg fun serving => (s.serving_iff.1 serving).elim online clearing]

/-- Settles O46: the scan by its observations, releases and candidates; the keymap; the press by the key's class. -/
theorem scanDebounces : Obligations.ScanDebounces := by
  refine ⟨fun s down held => ?_, keyAt_classes, fun s p => ?_⟩
  · intro observed released stops scanned at_ phantom test t
    have observes : ({ s with kbd.scanTimer := some 5000 } : State).kbd.observe down
        = { s.kbd with scanTimer := some 5000, debounce := observed } := by
      show ({ s.kbd with scanTimer := some 5000, debounce := Vector.ofFn _ } : Keyboard) = _
      have same : (fun p : KeyPos => s.kbd.debounce[p].observe (down.getLsbD p)) = fun p : KeyPos =>
          let r := s.kbd.debounce[p]
          let seen := down.getLsbD p.val
          if seen = r.down then ⟨r.down, 0⟩ else if r.agree < 2 then ⟨r.down, r.agree + 1⟩ else ⟨seen, 0⟩ :=
        funext fun p => Debounce.observe_eq _ _
      exact congrArg (fun f => ({ s.kbd with scanTimer := some 5000, debounce := Vector.ofFn f } : Keyboard)) same
    have ran : exec (.scan down) s = .next t := by
      show Host.Outcome.next (if _ then _ else _) = _
      rw [if_neg held]
      refine congrArg _ ((State.scanKeys_eq { s with kbd.scanTimer := some 5000 } down).trans ?_)
      rw [observes]
      rfl
    have steady : ∀ p : KeyPos, down.getLsbD p.val = s.kbd.debounce[p].down → observed[p].down =
      s.kbd.debounce[p].down :=
      fun p same => by
        show (Vector.ofFn _ : Vector Debounce 80)[p].down = _
        rw [Fin.getElem_fin, Vector.getElem_ofFn]
        dsimp only
        rw [if_pos same]
    clear_value observed
    obtain ⟨timer, debounce, joined, few⟩ := State.tryPresses_scanned
      ((List.finRange 80).filter fun p : KeyPos => observed[p].down && !scanned.kbd.down.contains p) scanned
    have tested : t = ((List.finRange 80).filter fun p : KeyPos => observed[p].down && !scanned.kbd.down.contains p).foldl
        State.tryPress scanned := rfl
    rw [← tested] at timer debounce joined few
    refine ⟨ran, timer, fun p => by rw [debounce], fun p gone mem => ?_, fun p mem => ?_, fun four => few ?_,
      fun quiet => ?_⟩
    · have up : observed[p].down = false := Bool.not_eq_true' _ ▸ (Bool.and_eq_true_iff.1 gone).2
      rcases joined p mem with stayed | candidate
      · simp [scanned, gone] at stayed
      · have isDown := (Bool.and_eq_true_iff.1 (List.mem_filter.1 candidate).2).1
        rw [up] at isDown
        exact absurd isDown (by decide)
    · rw [debounce]
      rcases joined p mem with stayed | candidate
      · exact .inl (List.mem_of_mem_filter stayed)
      · exact .inr (Bool.and_eq_true_iff.1 (List.mem_filter.1 candidate).2).1
    · exact ((List.filter_sublist.filter _).length_le).trans four
    · have none : ∀ p, released p = false := fun p => by
        show (s.kbd.debounce[p].down && !observed[p].down) = false
        rw [steady p (quiet p).1]
        cases s.kbd.debounce[p].down <;> rfl
      have down : scanned.kbd.down = s.kbd.down := List.filter_eq_self.2 fun p _ => by rw [none p]; rfl
      have goes : stops = false := by
        show (s.kbd.repeatKey.map _).getD false = false
        cases s.kbd.repeatKey with
        | none => rfl
        | some r => simp [none]
      have idle : ((List.finRange 80).filter fun p : KeyPos => observed[p].down && !scanned.kbd.down.contains p) = [] := by
        rw [List.filter_eq_nil_iff]
        intro p _ candidate
        rw [down, steady p (quiet p).1, Bool.and_eq_true] at candidate
        have mem := (quiet p).2 candidate.1
        simp [mem] at candidate
      rw [tested, idle, List.foldl_nil]
      show ({ s with
        kbd.scanTimer := some 5000
        kbd.debounce := observed
        kbd.down := scanned.kbd.down
        kbd.repeatKey := if stops then .none else s.kbd.repeatKey
        kbd.repeatTimer := if stops then .none else s.kbd.repeatTimer } : State) = _
      rw [down, goes]
      rfl
  · intro m pressed ended repeating
    obtain ⟨modifier, caps, absent, feed, break', function, edit, char⟩ := s.pressKey_classes p
    refine ⟨modifier, caps, absent, fun key => ⟨fun room => ?_, fun full => ?_⟩, fun key => ⟨fun served => ?_,
      fun online clearing => ?_⟩, function, edit, fun u v key => ?_⟩
    · exact (feed key).trans (State.feedKey_room (s := ended) room)
    · exact (feed key).trans (State.feedKey_full (s := ended) full)
    · exact (break' key).trans (State.breakKey_served (s := ended) served)
    · exact (break' key).trans (State.breakKey_other (s := ended) online clearing)
    · intro letter shifted cased code
      have same : charCode m u v = code := charCode_eq m u v
      rw [← same]
      exact char u v key


end Sys2Proof.Machine
end

section
/-! PROOF. The composer and the print arbiter (chapter 7): composition byte by byte, the lines handed, live takes, the
choice of units, the text of jobs and their boundaries, and the status reads. -/

namespace Sys2Proof.Machine

open Sys2Proof

/-! ## A token at a time (R141, R142) -/

theorem glyphOf_glyph {b : Byte} {flawed : Bool} (glyph : flawed = true ∨ (0x20 ≤ b.toNat ∧ b.toNat ≤ 0x7E)) :
    glyphOf b flawed = some (if flawed then .flaw else .code b) := by
  cases flawed with
  | true => rfl
  | false =>
    have printable : (decide (0x20 ≤ b) && decide (b ≤ 0x7E)) = true := by
      simpa [BitVec.le_def] using glyph
    rw [glyphOf, if_neg (by decide), if_pos printable]
    rfl

theorem glyphOf_other {b : Byte} {flawed : Bool} (other : ¬(flawed = true ∨ (0x20 ≤ b.toNat ∧ b.toNat ≤ 0x7E))) :
    glyphOf b flawed = none := by
  obtain ⟨unflawed, range⟩ := not_or.1 other
  have not_printable : ¬(decide (0x20 ≤ b) && decide (b ≤ 0x7E)) = true := by
    simpa [BitVec.le_def] using range
  rw [glyphOf, if_neg unflawed, if_neg not_printable]

section Compose

variable {b : Byte} {flawed : Bool} {ts : List Token} {l : LineBuffer} {used : Nat} {g : Glyph}

theorem composeFrom_full (glyph : glyphOf b flawed = some g) (full : 80 ≤ l.column) :
    composeFrom (.byte b flawed :: ts) l used = ⟨l, used, .full⟩ := by
  simp only [composeFrom, glyph, if_neg (Nat.not_lt.2 full)]

theorem composeFrom_glyph (glyph : glyphOf b flawed = some g) (room : l.column < 80) :
    composeFrom (.byte b flawed :: ts) l used = composeFrom ts (l.place g) (used + 1) := by
  simp only [composeFrom, glyph, if_pos room]

/-- A byte that places no glyph (R142). -/
theorem composeFrom_other (other : glyphOf b flawed = none) : composeFrom (.byte b flawed :: ts) l used =
    if b = 0x0D then ⟨l, used + 1, .cr⟩
    else if b = 0x0A then ⟨l, used + 1, .lf⟩
    else if b = 0x0C then ⟨l, used + 1, .ff⟩
    else if b = 0x09 then
      if l.column < 72 then composeFrom ts { l with column := tabColumn l.column } (used + 1) else ⟨l, used + 1, .tab⟩
    else if b = 0x08 then composeFrom ts { l with column := l.column - 1 } (used + 1)
    else composeFrom ts l (used + 1) := by
  simp only [composeFrom, other]

theorem composeFrom_fresh_content (content : l.hasContent = true) :
    composeFrom (.fresh :: ts) l used = ⟨l, used + 1, .fresh⟩ := by
  rw [composeFrom, if_pos content]

theorem composeFrom_fresh_empty (empty : ¬l.hasContent = true) :
    composeFrom (.fresh :: ts) l used = composeFrom ts l (used + 1) := by
  rw [composeFrom, if_neg empty]

end Compose

theorem LineBuffer.place_column {l : LineBuffer} (room : l.column < 80) (g : Glyph) :
    (l.place g).column = l.column + 1 := by
  rw [LineBuffer.place, dif_pos room]

theorem LineBuffer.place_cells {l : LineBuffer} (room : l.column < 80) (g : Glyph) (q : Fin 80) :
    (l.place g).cells[q] = if q.val = l.column then l.cells[q].place g else l.cells[q] := by
  rw [LineBuffer.place, dif_pos room]
  simp only [Fin.getElem_fin, Vector.getElem_set]
  by_cases here : q.val = l.column
  · simp [here]
  · simp [here, Ne.symm here]

theorem LineBuffer.place_eq {l : LineBuffer} (room : l.column < 80) (g : Glyph) : l.place g =
    ⟨Vector.ofFn fun q : Fin 80 => if q.val = l.column then l.cells[q].place g else l.cells[q], l.column + 1⟩ := by
  have cells : (l.place g).cells
      = Vector.ofFn fun q : Fin 80 => if q.val = l.column then l.cells[q].place g else l.cells[q] :=
    Vector.ext fun i inside => by
      rw [Vector.getElem_ofFn]
      exact LineBuffer.place_cells room g ⟨i, inside⟩
  rw [← cells, ← LineBuffer.place_column room g]

/-- A composition stays within the 80 columns and takes its tokens from the front. -/
theorem composeFrom_bounds (ts : List Token) (l : LineBuffer) (used : Nat) (within : l.column ≤ 80) :
    (composeFrom ts l used).buffer.column ≤ 80 ∧ used ≤ (composeFrom ts l used).used
      ∧ (composeFrom ts l used).used ≤ used + ts.length := by
  induction ts generalizing l used with
  | nil => exact ⟨within, Nat.le_refl _, Nat.le_refl _⟩
  | cons t ts ih =>
    have further : ∀ m : LineBuffer, m.column ≤ 80 → (composeFrom ts m (used + 1)).buffer.column ≤ 80
        ∧ used ≤ (composeFrom ts m (used + 1)).used
        ∧ (composeFrom ts m (used + 1)).used ≤ used + (t :: ts).length := fun m column => by
      obtain ⟨most, least, front⟩ := ih m (used + 1) column
      exact ⟨most, by omega, by rw [List.length_cons]; omega⟩
    have stops : ∀ e : Ending, (Composed.mk l (used + 1) e).buffer.column ≤ 80
      ∧ used ≤ (Composed.mk l (used + 1) e).used
        ∧ (Composed.mk l (used + 1) e).used ≤ used + (t :: ts).length := fun e =>
      ⟨within, Nat.le_succ _, by rw [List.length_cons]; exact Nat.add_le_add_left (by omega) _⟩
    cases t with
    | fresh =>
      by_cases content : l.hasContent = true
      · rw [composeFrom_fresh_content content]
        exact stops _
      · rw [composeFrom_fresh_empty content]
        exact further l within
    | byte b flawed =>
      cases glyph : glyphOf b flawed with
      | some g =>
        by_cases room : l.column < 80
        · rw [composeFrom_glyph glyph room]
          exact further _ (by rw [LineBuffer.place_column room]; exact room)
        · rw [composeFrom_full glyph (Nat.not_lt.1 room)]
          exact ⟨within, Nat.le_refl _, Nat.le_add_right _ _⟩
      | none =>
        rw [composeFrom_other glyph]
        split_ifs
        · exact stops _
        · exact stops _
        · exact stops _
        · refine further _ ?_
          show tabColumn l.column ≤ 80
          rw [tabColumn]
          omega
        · exact stops _
        · exact further _ (by show l.column - 1 ≤ 80; omega)
        · exact further l within

/-! ## What a composition hands (R142) -/

section Handout

variable {l : LineBuffer} {used : Nat}

theorem LineBuffer.textLine_content (content : 0 < l.column ∨ ∃ q : Fin 80, l.cells[q] ≠ .empty) :
    l.textLine = .cells l.cells := by
  rw [LineBuffer.textLine, if_pos (l.hasContent_iff.2 content)]

theorem LineBuffer.textLine_empty (empty : ¬(0 < l.column ∨ ∃ q : Fin 80, l.cells[q] ≠ .empty)) :
    l.textLine = .blank := by
  rw [LineBuffer.textLine, if_neg (mt l.hasContent_iff.1 empty)]

theorem Composed.handout_ranOut : (Composed.mk l used .ranOut).handout =
    if l.hasContent then some ⟨l.textLine, 0⟩ else none := rfl

theorem Composed.handout_ff : (Composed.mk l used .ff).handout =
    if l.hasContent then some ⟨l.textLine, 4⟩ else some ⟨.blank, 3⟩ := rfl

theorem Composed.handout_ended {e : Ending} (ran : e ≠ .ranOut) (ff : e ≠ .ff) :
    (Composed.mk l used e).handout = some ⟨l.textLine, 0⟩ := by
  unfold Composed.handout
  split
  · exact absurd ‹_› ran
  · exact absurd ‹_› ff
  · rfl

end Handout

/-! ## An LF behind a CR (R142) -/

theorem isLf_iff (t : Token) : isLf t = true ↔ t = .byte 0x0A false := by simp [isLf]

theorem followingLf_fresh_lf (n : Nat) (ts : List Token) :
    followingLf (List.replicate n .fresh ++ .byte 0x0A false :: ts) = n + 1 := by
  induction n with
  | zero => rfl
  | succ n ih => simp only [List.replicate_succ, List.cons_append, followingLf, ih]

theorem followingLf_fresh_other (n : Nat) {t : Token} (ts : List Token) (lf : t ≠ .byte 0x0A false)
    (fresh : t ≠ .fresh) :
    followingLf (List.replicate n .fresh ++ t :: ts) = 0 := by
  induction n with
  | zero =>
    cases t with
    | fresh => exact absurd rfl fresh
    | byte b flawed => exact if_neg fun is => lf ((isLf_iff _).1 is)
  | succ n ih => simp only [List.replicate_succ, List.cons_append, followingLf, ih]

theorem followingLf_fresh (n : Nat) : followingLf (List.replicate n .fresh) = 0 := by
  induction n with
  | zero => rfl
  | succ n ih => simp only [List.replicate_succ, followingLf, ih]

theorem jobCompose_eq (ts : List Token) (position : Nat) : jobCompose ts position =
    { compose (ts.drop position) with
      used := if (compose (ts.drop position)).ending = .cr
        then (compose (ts.drop position)).used + followingLf (ts.drop (position + (compose (ts.drop position)).used))
        else (compose (ts.drop position)).used } := by
  unfold jobCompose
  dsimp only
  split <;> rfl

/-! ## The front of a live source under its line-end state (R140) -/

section Consumed

variable {ts : List Token}

theorem isCr_iff (t : Token) : isCr t = true ↔ t = .byte 0x0D false := by simp [isCr]

theorem consumedByEnd_afterCr (head : ts.head? ≠ some (.byte 0x0A false)) : consumedByEnd .afterCr ts = 0 := by
  cases ts with
  | nil => rfl
  | cons t ts => exact if_neg fun lf => head (congrArg some ((isLf_iff t).1 lf))

theorem consumedByEnd_afterFull_lf : consumedByEnd .afterFull (.byte 0x0A false :: ts) = 1 := by
  cases ts <;> rfl

theorem consumedByEnd_afterFull_cr (head : ts.head? ≠ some (.byte 0x0A false)) :
    consumedByEnd .afterFull (.byte 0x0D false :: ts) = 1 := by
  cases ts with
  | nil => rfl
  | cons t ts => exact if_neg fun lf => head (congrArg some ((isLf_iff t).1 lf))

theorem consumedByEnd_afterFull_other (lf : ts.head? ≠ some (.byte 0x0A false))
    (cr : ts.head? ≠ some (.byte 0x0D false)) : consumedByEnd .afterFull ts = 0 := by
  cases ts with
  | nil => rfl
  | cons t ts =>
    have not_lf : isLf t = false := Bool.eq_false_iff.2 fun is => lf (congrArg some ((isLf_iff t).1 is))
    have not_cr : isCr t = false := Bool.eq_false_iff.2 fun is => cr (congrArg some ((isCr_iff t).1 is))
    cases ts <;> simp [consumedByEnd, not_lf, not_cr]

end Consumed

theorem liveCompose_of {e : LineEnd} {ts : List Token} {n : Nat} (consumed : consumedByEnd e ts = n) :
    liveCompose e ts = composeFrom (ts.drop n) LineBuffer.empty n := by
  rw [liveCompose, consumed]

/-! ## Printable text (R141) -/

/-- A line of printable bytes placed from column 0. -/
def placed (text : List Byte) : LineBuffer := text.foldl (fun l b => l.place (.code b)) LineBuffer.empty

theorem placed_append (text : List Byte) (b : Byte) : placed (text ++ [b]) = (placed text).place (.code b) := by
  rw [placed, List.foldl_append]
  rfl

theorem placed_cells (text : List Byte) (short : text.length ≤ 80) : (placed text).column = text.length
    ∧ ∀ q : Fin 80, (placed text).cells[q] = ((text[q.val]?).map fun b => Cell.one (.code b)).getD .empty := by
  induction text using List.reverseRecOn with
  | nil => exact ⟨rfl, fun q => by simp [placed, LineBuffer.empty]⟩
  | append_singleton text b ih =>
    rw [List.length_append, List.length_singleton] at short
    obtain ⟨column, cells⟩ := ih (by omega)
    have room : (placed text).column < 80 := by omega
    rw [placed_append, LineBuffer.place_column room, column, List.length_append, List.length_singleton]
    refine ⟨rfl, fun q => ?_⟩
    rw [LineBuffer.place_cells room, cells, column]
    rcases Nat.lt_trichotomy q.val text.length with before | here | behind
    · rw [if_neg (by omega), List.getElem?_append_left before]
    · simp [here, Cell.place]
    · rw [if_neg (by omega), List.getElem?_eq_none (by omega), List.getElem?_eq_none (by simp; omega)]

/-- Printable bytes go into the cells one after the other. -/
theorem composeFrom_printable {text : List Byte} (printable : ∀ b ∈ text, 0x20 ≤ b.toNat ∧ b.toNat ≤ 0x7E)
    (short : text.length ≤ 80) (ts : List Token) :
    compose ((text.map fun b => .byte b false) ++ ts) = composeFrom ts (placed text) text.length := by
  induction text using List.reverseRecOn generalizing ts with
  | nil => rfl
  | append_singleton text b ih =>
    have within : text.length < 80 := by simpa using short
    have glyph := glyphOf_glyph (flawed := false) (.inr (printable b (by simp)))
    rw [List.map_append, List.append_assoc, ih (fun c mem => printable c (by simp [mem])) (by omega)]
    show composeFrom (.byte b false :: ts) _ _ = _
    rw [composeFrom_glyph glyph (by rw [(placed_cells text (by omega)).1]; exact within), placed_append,
      List.length_append, List.length_singleton]
    rfl

/-! ## Live takes (R132, R140) -/

section Live

variable {s : State}

theorem State.liveTokens_lds (sink : s.settings.sink = .print) :
    s.liveTokens .lds = s.parser.fifo.map fun x => .byte x.byte x.flawed := if_pos sink

theorem State.liveTokens_closed (sink : s.settings.sink ≠ .print) : s.liveTokens .lds = [] := if_neg sink

theorem State.sourceReady_iff (src : LiveSource) : s.sourceReady src = true ↔
    (liveCompose (s.liveEnd src) (s.liveTokens src)).ending ≠ .ranOut
      ∨ (liveCompose (s.liveEnd src) (s.liveTokens src)).buffer.column = 80
      ∨ (s.liveTokens src ≠ [] ∧ s.liveExpired src = true) := by
  simp [State.sourceReady, liveReady, or_assoc]

theorem State.departCopy_none : s.departCopy 0 = s := rfl

theorem State.departCopy_some {n : Nat} (some : 0 < n) : s.departCopy n =
    { s with arb.copyBuffer := s.arb.copyBuffer.drop n }.changePrintMarks fun r =>
      { r with lcs := r.lcs - n, lineOwed := r.lineOwed || decide (0 < r.lcs) } := if_neg (by omega)

/-- A live take with the bytes gone and the line-end state set, before its line is handed. -/
def State.liveTaken (s : State) (src : LiveSource) : State :=
  let c := liveCompose (s.liveEnd src) (s.liveTokens src)
  match src with
  | .lds => { s with
    arb.lastUnit := .live, arb.ldsEnd := endAfter c, arb.unit := .live .lds 0 }.departFifo c.used true
  | .lcs => { s with
    arb.lastUnit := .live, arb.lcsEnd := endAfter c, arb.unit := .live .lcs 0 }.departCopy c.used

theorem State.takeLive_nothing {src : LiveSource}
    (nothing : (liveCompose (s.liveEnd src) (s.liveTokens src)).handout = none) :
    s.takeLive src = (s.liveTaken src).endLiveUnit := by
  cases src <;> simp only [State.takeLive, nothing, State.liveTaken]

theorem State.takeLive_hands {src : LiveSource} {h : Handout}
    (hands : (liveCompose (s.liveEnd src) (s.liveTokens src)).handout = some h) : s.takeLive src =
      { s.liveTaken src with
        arb.unit := .live src h.blanks, arb.buffer := (liveCompose (s.liveEnd src) (s.liveTokens src)).buffer
        engine.line := some h.line, engine.step := 0 }.checkRow := by
  cases src <;> simp only [State.takeLive, hands, State.liveTaken, State.handLine, State.takeLine]

end Live

/-- Settles O50: each token's rule, the lines handed, the live takes, and lines of glyph bytes. -/
theorem linesHoldEightyColumns : Obligations.LinesHoldEightyColumns := by
  refine ⟨composeFrom_bounds, fun b flawed ts l used => ?_,
    fun n t ts => ⟨followingLf_fresh_lf n ts, followingLf_fresh_other n ts, followingLf_fresh n⟩, jobCompose_eq,
    fun e ts => ?_, fun s src => ?_, fun text rest printable => ?_⟩
  · intro c glyph g content
    have isContent : l.hasContent = true ↔ content := l.hasContent_iff
    refine ⟨fun is full => composeFrom_full (glyphOf_glyph is) full, fun is room => ?_, fun other cr => ?_,
      fun other lf => ?_, fun other ff => ?_, fun other tab last => ?_, fun other tab room k least most => ?_,
      fun other bs => ?_, fun other plain => ?_, rfl, fun has => composeFrom_fresh_content (isContent.2 has),
      fun empty => composeFrom_fresh_empty (mt isContent.1 empty), fun ending => ?_⟩
    · show composeFrom _ l used = _
      rw [composeFrom_glyph (glyphOf_glyph is) room]
      refine congrArg (fun m => composeFrom ts m (used + 1)) ((LineBuffer.place_eq room g).trans ?_)
      refine congrArg (fun f => LineBuffer.mk (Vector.ofFn f) (l.column + 1)) (funext fun q => ?_)
      cases l.cells[q] <;> rfl
    · exact (composeFrom_other (glyphOf_other other)).trans (if_pos cr)
    · show composeFrom _ l used = _
      rw [composeFrom_other (glyphOf_other other), lf]
      rfl
    · show composeFrom _ l used = _
      rw [composeFrom_other (glyphOf_other other), ff]
      rfl
    · show composeFrom _ l used = _
      rw [composeFrom_other (glyphOf_other other), tab, if_neg (by decide), if_neg (by decide), if_neg (by decide),
        if_pos rfl, if_neg (by omega)]
    · have column : tabColumn l.column = 8 * k := by rw [tabColumn]; omega
      show composeFrom _ l used = _
      rw [composeFrom_other (glyphOf_other other), tab, if_neg (by decide), if_neg (by decide), if_neg (by decide),
        if_pos rfl, if_pos room, column]
    · show composeFrom _ l used = _
      rw [composeFrom_other (glyphOf_other other), bs]
      rfl
    · simp only [List.mem_cons, List.not_mem_nil, or_false, not_or] at plain
      obtain ⟨cr, lf, ff, tab, bs⟩ := plain
      show composeFrom _ l used = _
      rw [composeFrom_other (glyphOf_other other), if_neg cr, if_neg lf, if_neg ff, if_neg tab, if_neg bs]
    · intro line lines
      have same : l.textLine = line := by
        by_cases has : content
        · exact (LineBuffer.textLine_content has).trans (if_pos has).symm
        · exact (LineBuffer.textLine_empty has).trans (if_neg has).symm
      refine ⟨fun ran => ?_, fun ff => ?_, fun ran ff => ?_⟩
      · show (Composed.handout _).map _ = _
        rw [ran, Composed.handout_ranOut]
        by_cases has : content
        · rw [if_pos (isContent.2 has), if_pos has, same]; rfl
        · rw [if_neg (mt isContent.1 has), if_neg has]; rfl
      · show (Composed.handout _).map _ = _
        rw [ff, Composed.handout_ff]
        by_cases has : content
        · rw [if_pos (isContent.2 has), if_pos has, same]; rfl
        · rw [if_neg (mt isContent.1 has), if_neg has]; rfl
      · show (Composed.handout _).map _ = _
        rw [Composed.handout_ended ran ff, same]
        rfl
  · intro cr lf composed
    exact ⟨liveCompose_of rfl, liveCompose_of rfl, fun head => liveCompose_of (consumedByEnd_afterCr head),
      liveCompose_of consumedByEnd_afterFull_lf, liveCompose_of rfl,
      fun head => liveCompose_of (consumedByEnd_afterFull_cr head),
      fun notLf notCr => liveCompose_of (consumedByEnd_afterFull_other notLf notCr)⟩
  · intro c after left
    cases src with
    | lds => exact ⟨State.liveTokens_lds, State.liveTokens_closed, rfl, State.sourceReady_iff .lds,
        State.takeLive_nothing (s := s) (src := .lds),
          fun h hands => State.takeLive_hands (s := s) (src := .lds) hands, State.departCopy_none,
        fun n => State.departCopy_some⟩
    | lcs => exact ⟨State.liveTokens_lds, State.liveTokens_closed, rfl, State.sourceReady_iff .lcs,
        State.takeLive_nothing (s := s) (src := .lcs),
          fun h hands => State.takeLive_hands (s := s) (src := .lcs) hands, State.departCopy_none,
        fun n => State.departCopy_some⟩
  · intro tokens
    refine ⟨fun long => ?_, fun short => ?_⟩
    · obtain ⟨b, behind, split⟩ : ∃ b behind, text.drop 80 = b :: behind :=
        List.exists_cons_of_ne_nil (by simp only [ne_eq, List.drop_eq_nil_iff]; omega)
      have mem : b ∈ text := List.mem_of_mem_drop (i := 80) (by rw [split]; exact List.mem_cons_self)
      have front : (text.take 80).length = 80 := by rw [List.length_take]; omega
      have column := (placed_cells (text.take 80) (by omega)).1
      have composed : compose (tokens text) = ⟨placed (text.take 80), 80, .full⟩ := by
        have parts : tokens text = tokens (text.take 80) ++ tokens (b :: behind) := by
          rw [← split, ← List.map_append, List.take_append_drop]
        rw [parts, composeFrom_printable (fun c mem => printable c (List.mem_of_mem_take mem)) (by omega), front]
        exact composeFrom_full (glyphOf_glyph (.inr (printable b mem))) (by rw [column, front])
      rw [composed]
      exact ⟨rfl, rfl, column.trans front⟩
    · intro c
      have composed : c = ⟨placed text, text.length + 1, .cr⟩ := by
        show compose ((text ++ 0x0D :: rest).map fun b => .byte b false) = _
        rw [List.map_append, composeFrom_printable printable short, List.map_cons, composeFrom_other (by decide)]
        rfl
      obtain ⟨column, cells⟩ := placed_cells text short
      rw [composed]
      refine ⟨rfl, rfl, column, fun q => (cells q).trans ?_⟩
      cases text[q.val]? <;> rfl

/-! ## The choice of jobs (R134, R135) -/

theorem State.mem_eligibleJobs_iff (s : State) (x : Job) : x ∈ s.eligibleJobs ↔
    x ∈ s.arb.queue ∧ s.arb.masks.get x.owner = none
      ∧ (x.kind = .print → (s.slot x.slot).state = .queued ∧ (s.slot x.slot).chainHead = some x.slot) := by
  simp only [State.eligibleJobs, List.mem_filter, Bool.and_eq_true, Bool.or_eq_true, Option.isNone_iff_eq_none,
    decide_eq_true_eq]
  tauto

/-- The state of a job's units as it is taken (R134): a print chain ACTIVE, an auto-print job PRINTING. -/
def State.jobTaken (s : State) (j : Job) : State :=
  match j.kind with
  | .print => s.chainRequest j.slot .print [.queued] .active none
  | .copy => s
  | .auto => s.setSlot j.slot { s.slot j.slot with job := .printing }

theorem State.jobTaken_arb (s : State) (j : Job) : (s.jobTaken j).arb = s.arb := by
  unfold State.jobTaken
  split
  · exact State.chainRequest_arb _ _ _ _ _ _
  · rfl
  · rfl

/-- A job made the current unit (R134). -/
theorem State.beginJob_eq (s : State) (j : Job) : s.beginJob j = { s.jobTaken j with
    arb := { s.arb with
      queue := s.arb.queue.filter fun k => ¬(k.kind = j.kind ∧ k.slot = j.slot)
      unit := .job j 0 0 0
      holdWait := none
      withdrawalPending := false
      lastUnit := .queue
      lastJobPort := j.owner } } := by
  have same : (fun k : Job => !(decide (k.kind = j.kind) && decide (k.slot = j.slot)))
      = fun k => decide ¬(k.kind = j.kind ∧ k.slot = j.slot) := by
    funext k
    rw [decide_not, Bool.decide_and]
  rw [← s.jobTaken_arb j, ← same]
  unfold State.beginJob State.jobTaken
  cases j.kind <;> rfl

section Jobs

variable {s : State} {j : Job}

theorem State.startJob_held (print : j.kind = .print) (held : ∃ m ∈ s.members j.slot, (s.slot m).hold = true) :
    s.startJob j = { s with arb.holdWait := some ⟨j.slot, some (s.settings.holdTimeout * 1000)⟩ } := by
  rw [State.startJob, if_pos (by simp [print, (s.chainHeld_iff j.slot).2 held])]
  rfl

theorem State.startJob_free (free : ¬(j.kind = .print ∧ ∃ m ∈ s.members j.slot, (s.slot m).hold = true)) :
    s.startJob j = s.beginJob j := by
  rw [State.startJob, if_neg]
  rw [Bool.and_eq_true, decide_eq_true_iff, State.chainHeld_iff]
  exact free

theorem State.jobTokens_print (print : j.kind = .print) :
    s.jobTokens j = (s.members j.slot).flatMap fun i => slotTokens (s.slot i) := by
  simp only [State.jobTokens, print]

theorem State.jobTokens_plain (copy : j.kind = .copy) (plain : (s.slot j.slot).framing = .plain) :
    s.jobTokens j = (s.members j.slot).flatMap fun i => slotTokens (s.slot i) := by
  simp only [State.jobTokens, copy, plain, if_true]

theorem State.jobTokens_record (copy : j.kind = .copy) (record : (s.slot j.slot).framing = .record) :
    s.jobTokens j = (s.members j.slot).flatMap fun i => .fresh :: slotTokens (s.slot i) := by
  simp only [State.jobTokens, copy, record]
  rfl

theorem State.jobTokens_auto (auto : j.kind = .auto) : s.jobTokens j = recordTokens (s.slot j.slot) := by
  simp only [State.jobTokens, auto]

end Jobs

/-! ## The selection point (R133) -/

section Select

variable {s : State} (takes : s.engineTakes = true) (unit : s.arb.unit = .none)

include takes unit

theorem State.printOnce_feed (feeds : 0 < s.arb.feeds) : s.printOnce = some s.serveFeed := by
  simp only [State.printOnce, takes, unit, Bool.not_true, Bool.false_eq_true, if_false, if_pos feeds]

variable (noFeed : s.arb.feeds = 0)

include noFeed

theorem State.printOnce_held {w : PrintHold} (wait : s.arb.holdWait = some w) (held : s.chainHeld w.head = true) :
    s.printOnce = if w.timer.isNone then
      some { s with arb.holdWait := some ⟨w.head, some (ms s.settings.holdTimeout)⟩ } else none := by
  have none : ¬0 < s.arb.feeds := by omega
  simp only [State.printOnce, takes, unit, Bool.not_true, Bool.false_eq_true, if_false, if_neg none, wait, held,
    if_true]

theorem State.printOnce_unheld {w : PrintHold} {j : Job} (wait : s.arb.holdWait = some w)
    (free : s.chainHeld w.head = false) (queued : s.queuedPrintJob w.head = some j) :
    s.printOnce = some (s.beginJob j) := by
  have none : ¬0 < s.arb.feeds := by omega
  simp only [State.printOnce, takes, unit, Bool.not_true, Bool.false_eq_true, if_false, if_neg none, wait, free, queued]

theorem State.printOnce_gone {w : PrintHold} (wait : s.arb.holdWait = some w) (free : s.chainHeld w.head = false)
    (gone : s.queuedPrintJob w.head = none) : s.printOnce = some { s with arb.holdWait := none } := by
  have none : ¬0 < s.arb.feeds := by omega
  simp only [State.printOnce, takes, unit, Bool.not_true, Bool.false_eq_true, if_false, if_neg none, wait, free, gone]

theorem State.printOnce_choose (free : s.arb.holdWait = none) : s.printOnce = s.chooseUnit := by
  have none : ¬0 < s.arb.feeds := by omega
  simp only [State.printOnce, takes, unit, Bool.not_true, Bool.false_eq_true, if_false, if_neg none, free]

end Select

section Choose

variable {s : State}

theorem State.readySource_none (quiet : ¬(s.sourceReady .lds = true ∨ s.sourceReady .lcs = true)) :
    s.readySource = none := by
  obtain ⟨lds, lcs⟩ := not_or.1 quiet
  rw [State.readySource, if_neg lds, if_neg lcs]

theorem State.readySource_some (live : s.sourceReady .lds = true ∨ s.sourceReady .lcs = true) :
    s.readySource = some (if s.sourceReady .lds then .lds else .lcs) := by
  by_cases lds : s.sourceReady .lds = true
  · rw [State.readySource, if_pos lds, if_pos lds]
  · rw [State.readySource, if_neg lds, if_pos (live.resolve_left lds), if_neg lds]

theorem State.chooseUnit_none (quiet : s.readySource = none) (none : s.selectJob = none) : s.chooseUnit = .none := by
  simp only [State.chooseUnit, quiet, none]

theorem State.chooseUnit_live {src : LiveSource} (live : s.readySource = some src) (none : s.selectJob = none) :
    s.chooseUnit = some (s.takeLive src) := by
  simp only [State.chooseUnit, live, none]

theorem State.chooseUnit_job {j : Job} (quiet : s.readySource = none) (job : s.selectJob = some j) :
    s.chooseUnit = some (s.startJob j) := by
  simp only [State.chooseUnit, quiet, job]

theorem State.chooseUnit_both {src : LiveSource} {j : Job} (live : s.readySource = some src)
    (job : s.selectJob = some j) : s.chooseUnit =
      if liveFirst s.settings.printMode s.arb.lastUnit then some (s.takeLive src) else some (s.startJob j) := by
  simp only [State.chooseUnit, live, job]

/-- The queued job of a chain is one of the print queue. -/
theorem State.queuedPrintJob_slot {h : SlotId} {j : Job} (queued : s.queuedPrintJob h = some j) : j.slot = h := by
  have is := List.find?_some queued
  rw [Bool.and_eq_true, decide_eq_true_iff, decide_eq_true_iff] at is
  exact is.2

end Choose

/-! ## Text-line boundaries (R137 to R139, R143) -/

/-- The current unit replaced. -/
def State.withUnit (s : State) (u : PrintUnit) : State := { s with arb.unit := u }

theorem State.withUnit_mapChain (s : State) (u : PrintUnit) (h : SlotId) (f : Slot → Slot) :
    (s.withUnit u).mapChain h f = (s.mapChain h f).withUnit u := by
  simp only [State.mapChain, State.mapSlots, State.withUnit]
  rfl

theorem State.withUnit_raiseEnded (s : State) (u : PrintUnit) (h : SlotId) (o : EndOutcome) :
    (s.withUnit u).raiseEnded h o = (s.raiseEnded h o).withUnit u := by
  have slot : (s.withUnit u).slot h = s.slot h := rfl
  unfold State.raiseEnded
  rw [slot]
  split <;> rfl

/-- A request reaches the slots and the events alone: the current unit makes no difference to it. -/
theorem State.withUnit_chainRequest (s : State) (u : PrintUnit) (h : SlotId) (k : Kind) (e : List SlotState)
    (n : SlotState) (o : Option EndOutcome) :
    (s.withUnit u).chainRequest h k e n o = (s.chainRequest h k e n o).withUnit u := by
  have same : (s.withUnit u).requestFinds h k e = s.requestFinds h k e := rfl
  cases found : s.requestFinds h k e with
  | false => rw [State.chainRequest_discarded (same.trans found), State.chainRequest_discarded found]
  | true =>
    cases o with
    | none => rw [State.chainRequest_none (same.trans found), State.chainRequest_none found, State.withUnit_mapChain]
    | some r =>
      rw [State.chainRequest_some (same.trans found), State.chainRequest_some found, State.withUnit_mapChain,
        State.withUnit_raiseEnded]

theorem State.withUnit_endJob (s : State) (u : PrintUnit) : (s.withUnit u).endJob = s.endJob := rfl

/-- A job's end leaves nothing of the unit it ends (R137 to R139). -/
theorem State.cutJob_unit (s : State) (u : PrintUnit) (j : Job) : (s.withUnit u).cutJob j = s.cutJob j := by
  unfold State.cutJob
  cases j.kind with
  | print => simp only [State.withUnit_chainRequest, State.withUnit_endJob]
  | copy => simp only [State.withUnit_chainRequest, State.withUnit_endJob]
  | auto => rfl

theorem State.completeJob_unit (s : State) (u : PrintUnit) (j : Job) :
    (s.withUnit u).completeJob j = s.completeJob j := by
  unfold State.completeJob
  cases j.kind with
  | print => simp only [State.withUnit_chainRequest, State.withUnit_endJob]
  | copy => simp only [State.withUnit_chainRequest, State.withUnit_endJob]
  | auto => rfl

section Line

variable {s : State} {j : Job} {position blanks completed : Nat}

theorem State.nextJobLine_blank (some : 0 < blanks) : s.nextJobLine j position blanks completed =
    .some (.job j position (blanks - 1) completed, LineBuffer.empty, .blank) := by
  rw [State.nextJobLine, if_pos some]

theorem State.nextJobLine_none (finished : (jobCompose (s.jobTokens j) position).handout = none) :
    s.nextJobLine j position 0 completed = none := by
  rw [State.nextJobLine, if_neg (Nat.lt_irrefl 0)]
  simp only [finished]

theorem State.nextJobLine_some {h : Handout} (hands : (jobCompose (s.jobTokens j) position).handout = some h) :
    s.nextJobLine j position 0 completed = some (.job j (position + (jobCompose (s.jobTokens j) position).used)
      h.blanks completed, (jobCompose (s.jobTokens j) position).buffer, h.line) := by
  rw [State.nextJobLine, if_neg (Nat.lt_irrefl 0)]
  simp only [hands]

variable (unit : s.arb.unit = .job j position blanks completed)

include unit

theorem State.lineComplete_cut (pending : s.arb.withdrawalPending = true) : s.lineComplete = s.cutJob j := by
  rw [← s.cutJob_unit (.job j position blanks (min 255 (completed + 1)))]
  simp only [State.lineComplete, unit, pending, if_true, State.withUnit]

theorem State.lineComplete_complete (kept : s.arb.withdrawalPending = false)
    (finished : s.nextJobLine j position blanks (min 255 (completed + 1)) = none) :
    s.lineComplete = s.completeJob j := by
  have finished' : { s with arb.unit := .job j position blanks (min 255 (completed + 1)) }.nextJobLine j position blanks
      (min 255 (completed + 1)) = none := finished
  rw [← s.completeJob_unit (.job j position blanks (min 255 (completed + 1)))]
  simp only [State.lineComplete, unit, kept, Bool.false_eq_true, if_false, State.withUnit] at finished' ⊢
  simp only [finished']

theorem State.lineComplete_more (kept : s.arb.withdrawalPending = false)
    {r : PrintUnit × LineBuffer × TextLine} (more : s.nextJobLine j position blanks (min 255 (completed + 1)) =
      some r) :
    s.lineComplete = { s with arb.unit := .job j position blanks (min 255 (completed + 1)) } := by
  have more' : { s with arb.unit := .job j position blanks (min 255 (completed + 1)) }.nextJobLine j position blanks
      (min 255 (completed + 1)) = some r := more
  simp only [State.lineComplete, unit, kept, Bool.false_eq_true, if_false] at more' ⊢
  simp only [more']

variable (takes : s.engineTakes = true)

include takes

theorem State.printOnce_cut (pending : s.arb.withdrawalPending = true) : s.printOnce = some (s.cutJob j) := by
  simp only [State.printOnce, takes, unit, pending, Bool.not_true, Bool.false_eq_true, if_false, if_true]

theorem State.printOnce_complete (kept : s.arb.withdrawalPending = false)
    (finished : s.nextJobLine j position blanks completed = none) : s.printOnce = some (s.completeJob j) := by
  simp only [State.printOnce, takes, unit, kept, finished, Bool.not_true, Bool.false_eq_true, if_false]

theorem State.printOnce_line (kept : s.arb.withdrawalPending = false) {u : PrintUnit} {b : LineBuffer} {l : TextLine}
    (more : s.nextJobLine j position blanks completed = some (u, b, l)) :
    s.printOnce = some ({ s with arb.unit := u, arb.buffer := b }.takeLine l) := by
  simp only [State.printOnce, takes, unit, kept, more, Bool.not_true, Bool.false_eq_true, if_false, State.handLine]

end Line

/-- A job's next line, or that it is complete: blank lines first, then the line composed (R143). -/
theorem State.nextJobLine_eq_none {s : State} {j : Job} {position blanks completed : Nat}
    (finished : blanks = 0 ∧ (jobCompose (s.jobTokens j) position).handout = none) :
    s.nextJobLine j position blanks completed = none := by
  rw [finished.1]
  exact State.nextJobLine_none finished.2

theorem State.nextJobLine_eq_some {s : State} {j : Job} {position blanks completed : Nat}
    (more : ¬(blanks = 0 ∧ (jobCompose (s.jobTokens j) position).handout = none)) :
    ∃ r, s.nextJobLine j position blanks completed = some r := by
  rcases Nat.eq_zero_or_pos blanks with rfl | some
  · obtain ⟨h, hands⟩ := Option.ne_none_iff_exists'.1 fun none => more ⟨rfl, none⟩
    exact ⟨_, State.nextJobLine_some hands⟩
  · exact ⟨_, State.nextJobLine_blank some⟩

theorem State.lineComplete_live {s : State} {src : LiveSource} {blanks : Nat} (unit : s.arb.unit = .live src blanks) :
    s.lineComplete = if 0 < blanks then s else s.endLiveUnit := by
  simp only [State.lineComplete, unit]

theorem State.printOnce_live {s : State} {src : LiveSource} {blanks : Nat} (unit : s.arb.unit = .live src blanks)
    (takes : s.engineTakes = true) (some : 0 < blanks) :
    s.printOnce = .some ({ s with arb.unit := .live src (blanks - 1) }.takeLine .blank) := by
  simp only [State.printOnce, takes, unit, Bool.not_true, Bool.false_eq_true, if_false, if_pos some, State.handLine]

/-- Settles O49: the selection rule, the start and text of a job, the selection point, and the boundaries. -/
theorem printUnitsAreChosenByRule : Obligations.PrintUnitsAreChosenByRule := by
  refine ⟨fun s => ?_, fun s j => ?_, fun s => ?_, fun s => ?_, fun s j position blanks lines unit => ?_⟩
  · intro eligible other
    have listed : ∀ x, x ∈ s.eligibleJobs ↔ eligible x := s.mem_eligibleJobs_iff
    refine ⟨fun ⟨x, is⟩ => pickUnit_ne_none _ _ _ _ (List.ne_nil_of_mem ((listed x).2 is)), fun j selected => ?_⟩
    obtain ⟨mem, best⟩ := pickUnit_some selected
    refine ⟨(listed j).1 mem, fun x is => ?_⟩
    obtain ⟨above, tie⟩ := best x ((listed x).2 is)
    exact ⟨above, fun same => ⟨fun o => Option.some_inj.1 ((tie same).1 (congrArg some o)),
      fun o => (tie same).2 (congrArg some o)⟩⟩
  · intro held text taken
    refine ⟨fun is => State.startJob_held is.1 is.2, fun free => ?_, fun plain => ?_, State.jobTokens_record,
      State.jobTokens_auto⟩
    · have same : s.jobTaken j = taken := by
        show s.jobTaken j = _
        unfold State.jobTaken
        obtain ⟨kind, slot, owner, priority, entry⟩ := j
        cases kind <;> rfl
      rw [State.startJob_free free, State.beginJob_eq, same]
    · rcases plain with print | ⟨copy, plain⟩
      · exact State.jobTokens_print print
      · exact State.jobTokens_plain copy plain
  · intro handed takes unit
    refine ⟨State.printOnce_feed takes unit, fun noFeed h w wait => ⟨fun held running => ?_, fun held stopped => ?_,
      fun free j queued => ?_, fun free gone => ?_⟩, fun noFeed free => ?_⟩
    · rw [State.printOnce_held takes unit noFeed wait held]
      exact if_neg fun none => running (Option.isNone_iff_eq_none.1 none)
    · rw [State.printOnce_held takes unit noFeed wait held]
      exact if_pos (Option.isNone_iff_eq_none.2 stopped)
    · have queued' : s.queuedPrintJob h = some j := by
        rw [← queued, State.queuedPrintJob]
        simp only [Bool.decide_and]
      have free' : ¬(j.kind = .print ∧ ∃ m ∈ s.members j.slot, (s.slot m).hold = true) := fun is => by
        have held := (s.chainHeld_iff j.slot).2 is.2
        rw [State.queuedPrintJob_slot queued', free] at held
        exact absurd held (by decide)
      rw [State.startJob_free free', State.printOnce_unheld takes unit noFeed wait free queued']
    · refine State.printOnce_gone takes unit noFeed wait free (List.find?_eq_none.2 fun j mem => ?_)
      rw [Bool.and_eq_true, decide_eq_true_iff, decide_eq_true_iff]
      exact gone j mem
    · intro live source
      rw [State.printOnce_choose takes unit noFeed free]
      refine ⟨fun quiet => State.chooseUnit_none (State.readySource_none quiet),
        fun is => State.chooseUnit_live (State.readySource_some is),
        fun quiet j => State.chooseUnit_job (State.readySource_none quiet),
          fun is j job => ⟨fun first => ?_, fun first => ?_⟩⟩
      · have liveFirst' : liveFirst s.settings.printMode s.arb.lastUnit = true := by
          rcases first with h | ⟨h, last⟩ <;> simp [liveFirst, *]
        rw [State.chooseUnit_both (State.readySource_some is) job, if_pos liveFirst']
      · have jobFirst : ¬liveFirst s.settings.printMode s.arb.lastUnit = true := by
          rcases first with h | ⟨h, last⟩ <;> simp [liveFirst, *]
        rw [State.chooseUnit_both (State.readySource_some is) job, if_neg jobFirst]
  · intro ended
    refine ⟨fun none => ?_, fun feed => ?_, fun src blanks live => ⟨fun last => ?_, fun more => ⟨?_, fun takes => ?_⟩⟩⟩
    · simp only [State.lineComplete, none]
    · simp only [State.lineComplete, feed]
      rfl
    · rw [State.lineComplete_live live, last]
      rfl
    · rw [State.lineComplete_live live, if_pos more]
    · exact State.printOnce_live live takes more
  · intro ended absent cut complete c finished
    have isCut : s.cutJob j = cut := by
      show s.cutJob j = ended _
      unfold State.cutJob
      obtain ⟨kind, slot, owner, priority, entry⟩ := j
      cases kind <;> rfl
    have isComplete : s.completeJob j = complete := by
      show s.completeJob j = ended _
      unfold State.completeJob
      obtain ⟨kind, slot, owner, priority, entry⟩ := j
      cases kind <;> rfl
    rw [← isCut, ← isComplete]
    refine ⟨fun pending => ⟨State.lineComplete_cut unit pending, fun takes => State.printOnce_cut unit takes pending⟩,
      fun kept => ⟨fun over' => ⟨?_, fun takes => ?_⟩, fun more => ?_, fun takes some => ?_,
        fun takes zero h hands => ?_⟩⟩
    · exact State.lineComplete_complete unit kept (State.nextJobLine_eq_none over')
    · exact State.printOnce_complete unit takes kept (State.nextJobLine_eq_none over')
    · obtain ⟨r, next⟩ := State.nextJobLine_eq_some (completed := min 255 (lines + 1)) more
      exact State.lineComplete_more unit kept next
    · exact State.printOnce_line unit takes kept (State.nextJobLine_blank some)
    · subst zero
      exact State.printOnce_line unit takes kept (State.nextJobLine_some hands)

/-! ## Status reads (R147, R165, R193, R194) -/

theorem feedCommand_feeds {count : Byte} (some : count ≠ 0) (s : State) : feedCommand count s =
    ({ s with arb.feeds := min 9 (s.arb.feeds + count.toNat) }.settle,
      ⟨if 9 < s.arb.feeds + count.toNat then .okClamped else .ok, []⟩) := by
  rw [feedCommand, if_neg some]
  rfl

theorem pairBits_lt {l : List Nat} (small : ∀ x ∈ l, x < 4) : pairBits l < 4 ^ l.length := by
  induction l with
  | nil => simp [pairBits]
  | cons x l ih =>
    have rest := ih fun y mem => small y (List.mem_cons_of_mem x mem)
    have first := small x List.mem_cons_self
    rw [pairBits, List.length_cons, pow_succ]
    omega

theorem pairBits_digit {l : List Nat} (small : ∀ x ∈ l, x < 4) {k x : Nat} (at_k : l[k]? = some x) :
    pairBits l / 4 ^ k % 4 = x := by
  induction l generalizing k with
  | nil => simp at at_k
  | cons y l ih =>
    have first := small y List.mem_cons_self
    cases k with
    | zero =>
      obtain rfl : y = x := by simpa using at_k
      rw [pairBits, pow_zero]
      omega
    | succ k =>
      rw [pairBits, Nat.pow_succ', ← Nat.div_div_eq_div_mul, show (y + 4 * pairBits l) / 4 = pairBits l by omega]
      exact ih (fun z mem => small z (List.mem_cons_of_mem y mem)) (by simpa using at_k)

/-- The two bits of a lamp in a byte of four. -/
theorem byteOf_pairBits_digit {l : List Nat} (small : ∀ x ∈ l, x < 4) (four : l.length = 4) {k x : Nat}
    (at_k : l[k]? = some x) : (byteOf (pairBits l)).toNat / 4 ^ k % 4 = x := by
  have bound : pairBits l < 2 ^ 8 := by simpa [four] using pairBits_lt small
  have same : (byteOf (pairBits l)).toNat = pairBits l := by
    rw [byteOf, BitVec.toNat_ofNat]
    exact Nat.mod_eq_of_lt bound
  rw [same]
  exact pairBits_digit small at_k

theorem byteOf_flagBits_lt (l : List Bool) : (byteOf (flagBits l)).toNat < 2 ^ l.length := by
  rw [byteOf, BitVec.toNat_ofNat]
  exact (Nat.mod_le _ _).trans_lt (flagBits_lt_two_pow l)

/-- The flags of print status (R147). -/
def State.printBits (s : State) : List Bool :=
  [s.arb.withdrawalPending, s.sourceReady .lds, s.sourceReady .lcs, s.arb.masks.a.isSome, s.arb.masks.b.isSome,
    decide (s.arb.lastUnit = .queue), decide (s.arb.lastJobPort = .b)]

/-- The stall reasons and marks of print status (R165). -/
def Engine.stallBits (e : Engine) : List Bool :=
  [e.stopRequested, e.supply, e.heat, e.paper, e.paperOutPending, e.lastPaperOut, e.batteryJudged, e.headJudged]

/-- The scheduler flags of status (R109, R193). -/
def State.schedBits (s : State) : List Bool :=
  [s.sched.holdWait.isSome, s.replyWait.isSome, decide (s.sched.breakRequest = .requested),
    decide (s.sched.breakRequest = .sending), s.sched.masks.a.isSome, s.sched.masks.b.isSome,
    decide (s.sched.lastTurn = .chain)]

theorem State.schedBits_eq (s : State) :
    flagBits [s.sched.holdWait.isSome, s.replyWait.isSome] + 4 * breakNumber s.sched.breakRequest
      + 16 * flagBits [s.sched.masks.a.isSome, s.sched.masks.b.isSome, decide (s.sched.lastTurn = .chain)]
      = flagBits s.schedBits := by
  simp only [State.schedBits, flagBits]
  cases s.sched.holdWait.isSome <;> cases s.replyWait.isSome <;> rcases s.sched.breakRequest with _ | _ | _ <;>
    simp [breakNumber] <;> omega

/-- The keyboard flags of status (R128). -/
def Keyboard.statusBits (k : Keyboard) : List Bool :=
  [decide (k.wanted = some .a), decide (k.wanted = some .b), k.attached.a, k.attached.b, k.caps, k.repeatKey.isSome]

theorem Keyboard.statusBits_eq (k : Keyboard) :
    portCode k.wanted + 4 * flagBits [k.attached.a, k.attached.b, k.caps, k.repeatKey.isSome]
      = flagBits k.statusBits := by
  simp only [Keyboard.statusBits, flagBits]
  rcases k.wanted with _ | (_ | _) <;> simp [portCode] <;> omega

/-- The supply flags of status (R173). -/
def Monitor.statusBits (m : Monitor) : List Bool := [m.batteryTaken, m.headTaken, m.supplyLow, m.burst.isSome]

/-- An attach of a port to the keyboard stands for it, beside what was attached. -/
theorem State.attach_attached_get (s : State) (p q : Port) :
    (s.attach p).kbd.attached.get q = true ↔ s.kbd.attached.get q = true ∨ p = q := by
  cases p <;> cases q <;> simp [State.attach, PerPort.get, PerPort.set]

theorem lampModeNumber_lt (mode : LampMode) : lampModeNumber mode < 4 := by
  cases mode <;> decide

theorem levelNumber_lt (level : LampLevel) : levelNumber level < 4 := by
  cases level <;> decide

/-- Settles O48: each layout is the status function byte by byte, with its flag bytes as lists of flags; a byte of
two bits per lamp is read back digit by digit. -/
theorem feedAndStatusReads : Obligations.FeedAndStatusReads := by
  refine ⟨fun s p serves => ⟨State.servePort_refused serves rfl, fun count some =>
    State.servePort_next serves (feedCommand_feeds some (s.attach p))⟩, ?_, ?_⟩
  · intro s p serves b e r
    have flag : ∀ k < 8, (byteOf (flagBits s.printBits)).getLsbD k = s.printBits.getD k false := fun k inside =>
      byteOf_flagBits_getLsbD _ inside
    have stall : ∀ k < 8, (byteOf (flagBits e.stallBits)).getLsbD k = e.stallBits.getD k false := fun k inside =>
      byteOf_flagBits_getLsbD _ inside
    refine ⟨byteOf (flagBits s.printBits), byteOf (flagBits e.stallBits), State.servePort_next serves
      (congrArg (fun l => (s.attach p, (⟨.ok, l⟩ : Response))) ?_), byteOf_flagBits_lt s.printBits,
      flag 0 (by decide), flag 1 (by decide), flag 2 (by decide), ?_, ?_, ?_, ?_, stall 0 (by decide),
      stall 1 (by decide), stall 2 (by decide), stall 3 (by decide), stall 4 (by decide), stall 5 (by decide),
      stall 6 (by decide), stall 7 (by decide)⟩
    · change s.printStatus = _
      unfold State.printStatus State.printHoldHead
      refine List.cons_eq_cons.2 ⟨?unit, List.cons_eq_cons.2 ⟨?slot, List.cons_eq_cons.2 ⟨?lines,
        List.cons_eq_cons.2 ⟨?head, congrArg (fun step => byteOf (flagBits s.printBits) :: b s.arb.queue.length ::
          b s.arb.copyBuffer.length :: b s.arb.feeds :: b (engineNumber e.state) :: step :: _) ?step⟩⟩⟩⟩
      case unit =>
        rcases s.arb.unit with _ | _ | ⟨_ | _, _⟩ | ⟨⟨_ | _ | _, _⟩, _⟩ <;> rfl
      case slot => cases s.arb.unit <;> rfl
      case lines => cases s.arb.unit <;> rfl
      case head => rcases s.arb.holdWait with _ | ⟨_, _ | _⟩ <;> rfl
      case step => cases e.line <;> rfl
    · rw [flag 3 (by decide)]; exact Option.isSome_iff_ne_none
    · rw [flag 4 (by decide)]; exact Option.isSome_iff_ne_none
    · rw [flag 5 (by decide)]; exact decide_eq_true_iff
    · rw [flag 6 (by decide)]; exact decide_eq_true_iff
  · intro s p serves b
    have sched : ∀ k < 8, (byteOf (flagBits s.schedBits)).getLsbD k = s.schedBits.getD k false := fun k inside =>
      byteOf_flagBits_getLsbD _ inside
    have kbd : ∀ k < 8, (byteOf (flagBits (s.attach p).kbd.statusBits)).getLsbD k =
        (s.attach p).kbd.statusBits.getD k false := fun k inside => byteOf_flagBits_getLsbD _ inside
    have supply : ∀ k < 8, (byteOf (flagBits s.monitor.statusBits)).getLsbD k =
        s.monitor.statusBits.getD k false := fun k inside => byteOf_flagBits_getLsbD _ inside
    refine ⟨byteOf (flagBits s.schedBits), byteOf (flagBits (s.attach p).kbd.statusBits),
      byteOf (flagBits s.monitor.statusBits),
      byteOf (pairBits ([s.settings.lampLine, s.settings.lampPaper, s.settings.lampSupply,
        s.settings.lampFocus].map lampModeNumber)),
      byteOf (pairBits (s.lampLevels.map levelNumber)), State.servePort_next serves
      (congrArg (fun l => (s.attach p, (⟨.ok, l⟩ : Response))) ?_), byteOf_flagBits_lt s.schedBits,
      ?_, ?_, ?_, ?_, ?_, ?_, ?_, byteOf_flagBits_lt (s.attach p).kbd.statusBits, ?_, ?_, ?_, ?_,
      kbd 4 (by decide), ?_, byteOf_flagBits_lt s.monitor.statusBits, supply 0 (by decide), supply 1 (by decide),
      supply 2 (by decide), ?_, fun k mode at_k => ?_, fun k level at_k => ?_⟩
    · unfold State.status
      rw [State.schedBits_eq]
      dsimp only
      rw [Keyboard.statusBits_eq, show (s.attach p).sched.turn = s.sched.turn from rfl]
      generalize s.sched.turn = turn
      cases turn <;> rfl
    · rw [sched 0 (by decide)]; exact Option.isSome_iff_ne_none
    · rw [sched 1 (by decide)]; exact Option.isSome_iff_ne_none
    · rw [sched 2 (by decide)]; exact decide_eq_true_iff
    · rw [sched 3 (by decide)]; exact decide_eq_true_iff
    · rw [sched 4 (by decide)]; exact Option.isSome_iff_ne_none
    · rw [sched 5 (by decide)]; exact Option.isSome_iff_ne_none
    · rw [sched 6 (by decide)]; exact decide_eq_true_iff
    · rw [kbd 0 (by decide)]; exact decide_eq_true_iff
    · rw [kbd 1 (by decide)]; exact decide_eq_true_iff
    · rw [kbd 2 (by decide)]; exact s.attach_attached_get p .a
    · rw [kbd 3 (by decide)]; exact s.attach_attached_get p .b
    · rw [kbd 5 (by decide)]; exact Option.isSome_iff_ne_none
    · rw [supply 3 (by decide)]; exact Option.isSome_iff_ne_none
    · exact byteOf_pairBits_digit (by simp [lampModeNumber_lt]) rfl (by rw [List.getElem?_map, at_k]; rfl)
    · exact byteOf_pairBits_digit (by simp [levelNumber_lt]) rfl (by rw [List.getElem?_map, at_k]; rfl)


end Sys2Proof.Machine
end

section
/-! PROOF. The row engine, the paper and the monitor (chapters 8 and 9): the check before a row, the firing of its
groups, the end of a step, the paper sensor, the measurements, the lamps and the beeper. -/

namespace Sys2Proof.Machine

open Sys2Proof

/-! ## The check before a glyph row (R152) -/

/-- The stall reasons entered at a check on two judged measurements, with one PRINT_STALL (R152). -/
def State.enterStalls (s : State) : State :=
  let supplyNow := !s.engine.supply && decide (s.monitor.v < 4200)
  let heatNow := !s.engine.heat && decide (65 ≤ s.monitor.th)
  let s' := { s with
    engine.supply := s.engine.supply || supplyNow
    engine.heat := s.engine.heat || heatNow }
  if supplyNow || heatNow then s'.alertBoth .printStall else s'

theorem State.checkRow_unjudged {s : State} (unjudged : ¬(s.engine.batteryJudged = true ∧ s.engine.headJudged = true)) :
    s.checkRow = s.holdRow := by
  rw [State.checkRow, if_pos (by simpa [imp_iff_not_or] using unjudged)]

theorem State.checkRow_judged {s : State} (judged : s.engine.batteryJudged = true ∧ s.engine.headJudged = true) :
    s.checkRow = if s.enterStalls.engine.supply || s.enterStalls.engine.heat then s.enterStalls.holdRow
      else s.enterStalls.fireRow := by
  rw [State.checkRow, if_neg (by simp [judged])]
  rfl

theorem State.enterStalls_engine (s : State) : s.enterStalls.engine = { s.engine with
    supply := s.engine.supply || decide (s.monitor.v < 4200)
    heat := s.engine.heat || decide (65 ≤ s.monitor.th) } := by
  have enter : ∀ a b : Bool, (a || !a && b) = (a || b) := by decide
  rw [← enter s.engine.supply, ← enter s.engine.heat, State.enterStalls]
  split <;> rfl

@[simp] theorem State.enterStalls_monitor (s : State) : s.enterStalls.monitor = s.monitor := by
  simp only [State.enterStalls]
  split <;> rfl

@[simp] theorem State.enterStalls_settings (s : State) : s.enterStalls.settings = s.settings := by
  simp only [State.enterStalls]
  split <;> rfl

/-- A reason newly set raises PRINT_STALL once to both ports. -/
theorem State.enterStalls_events (s : State) : s.enterStalls.events =
    if (s.engine.supply = false ∧ s.monitor.v < 4200) ∨ (s.engine.heat = false ∧ 65 ≤ s.monitor.th) then
      (s.alertBoth .printStall).events else s.events := by
  simp only [State.enterStalls, Bool.or_eq_true, Bool.and_eq_true, Bool.not_eq_true', decide_eq_true_eq]
  split <;> rfl

/-- What a row fired begins with (R157 to R159). -/
theorem State.fireRow_firing (s : State) : ∃ f, s.fireRow.engine.firing = some f
    ∧ f.row = lineRow (s.engine.line.getD .blank) s.engine.step ∧ f.groups = firingGroups f.row f.nmax
    ∧ f.index = 0 ∧ s.fireRow.engine.previous = f.row ∧ s.fireRow.engine.record.groups = f.groups.length
    ∧ (f.groups = [] → f.phase = .done ∧ s.fireRow.engine.latch = 0 ∧ s.fireRow.engine.strobes = 0
      ∧ s.fireRow.engine.groupTimer = none)
    ∧ ∀ g gs, f.groups = g :: gs → f.phase = .phase1 ∧ s.fireRow.engine.latch = f.row
      ∧ s.fireRow.engine.strobes = g ∧ s.fireRow.engine.groupTimer = some f.ts := by
  refine ⟨_, rfl, rfl, rfl, rfl, rfl, rfl, fun empty => ?_, fun g gs some => ?_⟩
  · simp only [State.fireRow]
    rw [show firingGroups _ _ = [] from empty]
    exact ⟨rfl, rfl, rfl, rfl⟩
  · simp only [State.fireRow]
    rw [show firingGroups _ _ = g :: gs from some]
    exact ⟨rfl, rfl, rfl, rfl⟩

/-- What a row held keeps (R152). -/
theorem State.holdRow_engine (s : State) : s.holdRow.engine = { s.engine with
    state := .held, firing := none, strobes := 0, stepTimer := none, groupTimer := none } := rfl

/-- Settles O53: a check on measurements not both judged holds the row; else the reasons are entered, and the row is
held under a reason and fired under none. -/
theorem noRowFiresBelowTheLimits : Obligations.NoRowFiresBelowTheLimits := by
  intro s t judged low hot entered
  by_cases both : judged
  · have engine := s.enterStalls_engine
    have supply : s.enterStalls.engine.supply = true ↔ s.engine.supply = true ∨ low := by simp [engine, low]
    have heat : s.enterStalls.engine.heat = true ↔ s.engine.heat = true ∨ hot := by simp [engine, hot]
    have events : (entered → s.enterStalls.events = (s.alertBoth .printStall).events)
        ∧ (¬entered → s.enterStalls.events = s.events) := by
      rw [s.enterStalls_events]
      exact ⟨fun yes => if_pos yes, fun no => if_neg no⟩
    have t_eq : t = _ := State.checkRow_judged both
    by_cases stalled : (s.enterStalls.engine.supply || s.enterStalls.engine.heat) = true
    · rw [if_pos stalled] at t_eq
      have reason : (s.engine.supply = true ∨ low) ∨ s.engine.heat = true ∨ hot := by
        rwa [Bool.or_eq_true, supply, heat] at stalled
      have state : t.engine.state = .held := by rw [t_eq]; rfl
      refine ⟨⟨by simp [state], fun ⟨_, noSupply, noHeat, high, cool⟩ => ?_⟩, by simp [state], by simp [state],
        fun _ => ?_, fun no => absurd both no, fun _ => ?_⟩
      · simp [noSupply, noHeat, high, cool] at reason
      · rw [t_eq, State.holdRow_engine, engine]
        exact ⟨rfl, rfl, rfl, rfl, rfl, rfl, rfl, rfl, rfl⟩
      · rw [t_eq]
        exact ⟨supply, heat, events⟩
    · rw [if_neg stalled] at t_eq
      have clear : ¬(s.engine.supply = true ∨ low) ∧ ¬(s.engine.heat = true ∨ hot) := by
        rwa [Bool.or_eq_true, supply, heat, not_or] at stalled
      have state : t.engine.state = .row := by rw [t_eq]; rfl
      refine ⟨⟨fun _ => ?_, fun _ => state⟩, fun _ => ?_, fun _ => ?_, fun no => absurd state no,
        fun no => absurd both no, fun _ => ?_⟩
      · simpa [both, not_or, and_assoc, and_left_comm] using clear
      · obtain ⟨f, firing, row, rest⟩ := s.enterStalls.fireRow_firing
        rw [engine] at row
        rw [t_eq]
        exact ⟨f, firing, row, rest⟩
      · rw [t_eq]
        exact ⟨congrArg Monitor.v s.enterStalls_monitor, congrArg Monitor.th s.enterStalls_monitor, rfl⟩
      · rw [t_eq]
        exact ⟨supply, heat, events⟩
  · have t_eq : t = s.holdRow := State.checkRow_unjudged both
    have state : t.engine.state = .held := by rw [t_eq]; rfl
    refine ⟨by simp [state, both], by simp [state], by simp [state], fun _ => ?_, fun _ => ?_,
      fun yes => absurd yes both⟩ <;> rw [t_eq]
    · exact ⟨rfl, rfl, rfl, rfl, rfl, rfl, rfl, rfl, rfl⟩
    · exact ⟨rfl, rfl, rfl⟩

/-! ## The firing of a group (R157, R158) -/

/-- Settles O54: each command finds the phase it belongs to; the strobe end is followed by the measurement that
waited. -/
theorem firingOfAGroup : Obligations.FiringOfAGroup := by
  refine ⟨fun s d => Bool.and_eq_true_iff, fun s f firing => ⟨fun gap => ?_, fun phase1 => ?_, fun vbat phase2 => ?_⟩⟩
  · show execGroupBegin s = _
    simp only [execGroupBegin, firing, if_pos gap]
    rfl
  · show execGroupPhase2 s = _
    simp only [execGroupPhase2, firing, if_pos phase1]
    rfl
  · intro released
    have ended : exec (.groupStrobeEnd vbat) s = .next (released.takeDueBattery vbat) := by
      show execGroupStrobeEnd vbat s = _
      simp only [execGroupStrobeEnd, firing, if_pos phase2]
      rfl
    have monitor : released.monitor = s.monitor := by
      simp only [released]
      split <;> rfl
    rw [ended, State.takeDueBattery, monitor]
    exact ⟨fun none => by simp [none], fun due => by simp [due]⟩

/-! ## The end of a step (R159, R160, R162, R164) -/

theorem State.paperStall_out {s : State} (out : s.engine.paperOutPending = true) : s.paperStall =
    { s with engine.paper := true, engine.paperOutPending := false }.alertBoth .paperOut := by
  rw [State.paperStall, if_pos out]

theorem State.nextStep_checks {s : State} (glyph : s.engine.step < 11) : s.nextStep = { s with
    engine.phaseIndex := s.engine.phaseIndex + 1
    engine.stepCounter := s.engine.stepCounter + 1
    engine.step := s.engine.step + 1
    engine.firing := none
    engine.latch := 0
    engine.strobes := 0
    engine.previous := if s.engine.state = EngineState.blank then 0 else s.engine.previous }.checkRow := by
  have inside : s.engine.step + 1 < 12 := by omega
  exact if_pos inside

theorem State.nextStep_blank {s : State} (last : 11 ≤ s.engine.step) : s.nextStep = { s with
    engine.phaseIndex := s.engine.phaseIndex + 1
    engine.stepCounter := s.engine.stepCounter + 1
    engine.step := s.engine.step + 1
    engine.firing := none
    engine.latch := 0
    engine.strobes := 0
    engine.previous := if s.engine.state = EngineState.blank then 0 else s.engine.previous }.beginBlank := by
  have outside : ¬s.engine.step + 1 < 12 := by omega
  exact if_neg outside

/-- Settles O55: the branches of a step's end, by the stop requested and the step index. -/
theorem stepEndMovesThePaper : Obligations.StepEndMovesThePaper := by
  refine ⟨fun s m => ?_, fun s stepping => ?_⟩
  · rw [State.motorPins, List.getElem?_map, List.getElem?_eq_getElem (by simp), List.getElem_finRange]
    simp
  · intro e moved idle
    have ends : exec .stepEnd s = .next s.endStep := by
      show Host.Outcome.next _ = _
      rw [if_pos (by simpa using stepping)]
    rw [ends, State.endStep]
    refine ⟨fun stop => ?_, fun (go : s.engine.stopRequested = false) (glyph : s.engine.step < 11) => ?_,
      fun (go : s.engine.stopRequested = false) (least : 11 ≤ s.engine.step) (most : s.engine.step < 15) => ?_,
      fun (go : s.engine.stopRequested = false) (last : 15 ≤ s.engine.step) => ?_,
      fun u => ⟨State.paperStall_present, State.paperStall_out⟩⟩
    · rw [if_pos stop]
      rfl
    · rw [if_neg (by simp [go]),
        if_pos (by omega), State.nextStep_checks glyph]
    · rw [if_neg (by simp [go]), if_pos most,
        State.nextStep_blank least]
      rfl
    · have engine : { s with engine.previous := 0 }.engine.motorStep.enterIdle = { idle with previous := 0 } := by
        simp only [Engine.motorStep, Engine.enterIdle, idle, moved, e, go]
      rw [if_neg (by simp [go]),
        if_neg (by omega), State.endLine, engine]

/-! ## The paper sensor (R161, R163) -/

theorem State.paperOut_stalled {s : State} (stalled : s.engine.paper = true) :
    s.paperOut = { s with engine.lastPaperOut := true, engine.paperTimer := none } := if_pos stalled

theorem State.paperOut_idle {s : State} (clear : s.engine.paper = false) (none : s.engine.line = none) :
    s.paperOut = { s with
      engine.lastPaperOut := true
      engine.paperTimer := .none
      engine.paper := true }.alertBoth .paperOut :=
  (if_neg (ne_true_of_eq_false clear)).trans (if_pos (Option.isNone_iff_eq_none.2 none))

theorem State.paperOut_line {s : State} (clear : s.engine.paper = false) (some : s.engine.line ≠ none) :
    s.paperOut = { s with
      engine.lastPaperOut := true
      engine.paperTimer := none
      engine.paperOutPending := true } :=
  (if_neg (ne_true_of_eq_false clear)).trans (if_neg (mt Option.isNone_iff_eq_none.1 some))

theorem State.paperPresent_eq (s : State) : s.paperPresent = { s with
    engine.lastPaperOut := false
    engine.paperTimer := if (s.engine.paper = true ∨ s.engine.paperOutPending = true) ∧ s.engine.paperTimer = none
      then some 1000000 else s.engine.paperTimer } := by
  have starts : ((s.engine.paper || s.engine.paperOutPending) && s.engine.paperTimer.isNone) = true ↔
      (s.engine.paper = true ∨ s.engine.paperOutPending = true) ∧ s.engine.paperTimer = none := by simp
  simp only [State.paperPresent, starts]
  split <;> rfl

/-- Settles O56: a sample that reads OUT sets PAPER at once without a line, and leaves it to the line's end with one;
one
that reads PRESENT starts the timer where it is needed and does not run. -/
theorem paperSensor : Obligations.PaperSensor := by
  refine ⟨fun s on => ?_, fun s runs => ?_⟩
  · have sample : ∀ out', exec (.paperSample out') s = .next (if out' then
        { s with engine.sampleTimer := Engine.reset.sampleTimer }.paperOut
        else { s with engine.sampleTimer := Engine.reset.sampleTimer }.paperPresent) := fun out' => by
      show Host.Outcome.next _ = _
      rw [if_neg on]
    intro out
    rw [sample, sample]
    refine ⟨fun stalled => ?_, fun clear none => ?_, fun clear some => ?_, ?_⟩
    · exact congrArg _ (State.paperOut_stalled stalled)
    · exact congrArg _ (State.paperOut_idle clear none)
    · exact congrArg _ (State.paperOut_line clear some)
    · exact congrArg _ (State.paperPresent_eq _)
  · show Host.Outcome.next _ = _
    rw [if_pos (Option.isSome_iff_ne_none.2 runs)]
    rfl

/-! ## Measurements (R153, R167 to R169) -/

/-- SUPPLY_LOW after a battery measurement (R169): set below 4600 mV, cleared at 4800 mV. -/
def Monitor.judgedLow (m : Monitor) (v : Nat) : Bool := if m.supplyLow then decide (v < 4800) else decide (v < 4600)

/-- A battery measurement recorded and judged, before an alert and a check (R153, R167, R169). -/
def State.recordBattery (s : State) (vbat : Nat) : State := { s with
  monitor.v := batteryReading vbat
  monitor.batteryTaken := true
  monitor.batteryDue := false
  monitor.supplyLow := s.monitor.judgedLow (batteryReading vbat)
  engine.batteryJudged := true
  engine.supply := s.engine.supply && decide (batteryReading vbat < 4400) }

/-- The alert of SUPPLY_LOW newly set, on a measurement recorded (R169). -/
def State.warnBattery (s : State) (vbat : Nat) : State :=
  if s.monitor.judgedLow (batteryReading vbat) && !s.monitor.supplyLow then
    (s.recordBattery vbat).alertBoth .supplyLow
  else s.recordBattery vbat

theorem State.judgeSupply_eq (s : State) : s.judgeSupply =
    if s.monitor.judgedLow s.monitor.v && !s.monitor.supplyLow then
      { s with monitor.supplyLow := s.monitor.judgedLow s.monitor.v }.alertBoth .supplyLow
    else { s with monitor.supplyLow := s.monitor.judgedLow s.monitor.v } := by
  by_cases entered : s.monitor.supplyLow = false ∧ s.monitor.v < 4600
  · have low : s.monitor.judgedLow s.monitor.v = true := by simp [Monitor.judgedLow, entered]
    rw [State.judgeSupply, if_pos (by simpa using entered), low, if_pos (by simp [entered])]
  · by_cases left : s.monitor.supplyLow = true ∧ 4800 ≤ s.monitor.v
    · have high : s.monitor.judgedLow s.monitor.v = false := by simp [Monitor.judgedLow, left]
      rw [State.judgeSupply, if_neg (by simpa using entered), if_pos (by simpa using left), high, if_neg (by simp)]
    · have same : s.monitor.judgedLow s.monitor.v = s.monitor.supplyLow := by
        cases low : s.monitor.supplyLow with
        | false => simpa [Monitor.judgedLow, low] using entered
        | true => simpa [Monitor.judgedLow, low] using left
      rw [State.judgeSupply, if_neg (by simpa using entered), if_neg (by simpa using left), same, if_neg (by simp)]

theorem State.warnBattery_eq (s : State) (vbat : Nat) : s.warnBattery vbat =
    let judged := { s with
      monitor.v := batteryReading vbat
      monitor.batteryTaken := true
      monitor.batteryDue := false }.judgeSupply
    { judged with
      engine.batteryJudged := true
      engine.supply := s.engine.supply && decide (batteryReading vbat < 4400) } := by
  by_cases low : (s.monitor.judgedLow (batteryReading vbat) && !s.monitor.supplyLow) = true
  · rw [State.warnBattery, if_pos low, State.judgeSupply_eq, if_pos]
    · rfl
    · exact low
  · rw [State.warnBattery, if_neg low, State.judgeSupply_eq, if_neg]
    · rfl
    · exact low

theorem State.measureBattery_eq (s : State) (vbat : Nat) : s.measureBattery vbat =
    if s.engine.state = .held ∧ ((s.engine.supply = true ∧ 4400 ≤ batteryReading vbat)
        ∨ (s.engine.batteryJudged = false ∧ s.engine.headJudged = true)) then
      (s.warnBattery vbat).checkRow
    else s.warnBattery vbat := by
  have clears : ∀ a, (a && !(a && decide (4400 ≤ batteryReading vbat)))
      = (a && decide (batteryReading vbat < 4400)) := fun a => by
    cases a <;> simp [← decide_not]
  have v : ∀ u : State, u.judgeSupply.monitor.v = u.monitor.v := fun u => by
    rw [State.judgeSupply_eq]
    split <;> rfl
  rw [State.warnBattery_eq]
  simp only [State.measureBattery, State.judgeSupply_engine, v, clears, Bool.and_eq_true, Bool.or_eq_true,
    Bool.not_eq_true', decide_eq_true_eq]

/-- A head measurement recorded and judged, before a check (R153, R168). -/
def State.recordHead (s : State) (thm : Int) : State := { s with
  monitor.th := headReading thm
  monitor.headTaken := true
  engine.headJudged := true
  engine.heat := s.engine.heat && !decide (headReading thm ≤ 55) }

theorem State.measureHead_eq (s : State) (thm : Int) : s.measureHead thm =
    if s.engine.state = .held ∧ ((s.engine.heat = true ∧ headReading thm ≤ 55)
        ∨ (s.engine.headJudged = false ∧ s.engine.batteryJudged = true)) then
      (s.recordHead thm).checkRow
    else s.recordHead thm := by
  have clears : ∀ a b : Bool, (a && !(a && b)) = (a && !b) := by decide
  simp only [State.measureHead, State.recordHead, clears, Bool.and_eq_true, Bool.or_eq_true, Bool.not_eq_true',
    decide_eq_true_eq]

theorem headReading_eq (thm : Int) : headReading thm = max (-20) (min 90 ((thm + 500) / 1000)) :=
  clampInt_eq_max_min (by decide) _

/-! ## Lamps and the beeper (R170 to R173) -/

theorem State.beep_disabled {s : State} (off : s.settings.beeper = false) : s.beep = s := by
  rw [State.beep, off]
  rfl

theorem State.beep_enabled {s : State} (on : s.settings.beeper = true) :
    s.beep = { s with monitor.burst := some (s.monitor.burst.getD 100000) } := by
  rw [State.beep, on]
  cases burst : s.monitor.burst with
  | none => rfl
  | some left =>
    rw [Option.getD_some, ← burst]
    exact if_neg (by simp [burst])

theorem State.beepPin_burst {s : State} {e : Nat} (early : e ≤ 100000)
    (burst : s.monitor.burst = some (100000 - e)) :
    s.beepPin = if e / 250 % 2 = 0 then Config.beepStart else !Config.beepStart := by
  simp only [State.beepPin, burst, Nat.sub_sub_self early]

theorem State.lampPins_of_level {s : State} {n : Nat} {level : LampLevel} (at_n : s.lampLevels[n]? = some level) :
    s.lampPins[n]? = some (decide (s.power ≠ .held
      ∧ (level = .lit ∨ (level = .blinking ∧ s.monitor.blinkLit = true)))) := by
  rw [State.lampPins, List.getElem?_map, at_n]
  cases level <;> simp

/-- Settles O57: the lamps by their modes, the beeper by the burst left, and each event as the measurement recorded with
the alert and the check that follow it. -/
theorem monitorEvents : Obligations.MonitorEvents := by
  refine ⟨fun s => ?_, fun s on => ⟨fun vbat => ?_, fun thm => ?_, ?_, rfl, State.beep_disabled, State.beep_enabled⟩⟩
  · intro shown
    refine ⟨?_, fun n level => State.lampPins_of_level, fun none => ?_, fun e => State.beepPin_burst⟩
    · have level : ∀ mode auto, lampLevel mode auto = shown mode auto := fun mode auto => by cases mode <;> rfl
      simp only [State.lampLevels, level, State.lineAuto, State.paperAuto, State.supplyAuto, State.focusAuto,
        Bool.or_eq_true, decide_eq_true_eq, or_assoc, Option.isSome_iff_ne_none]
    · rw [State.beepPin, none]
  · intro v low measured
    have due : exec (.batteryTimerExpired vbat) s = .next
        ({ s with monitor.batteryTimer := Monitor.reset.batteryTimer }.dueBattery vbat) := by
      show Host.Outcome.next _ = _
      rw [if_neg on]
    rw [due]
    refine ⟨fun strobed => congrArg _ (if_neg strobed), fun quiet moving => ?_, fun quiet held => ?_⟩
    · rw [State.dueBattery, if_pos (show s.engine.strobes = 0 from quiet), State.measureBattery_eq,
        if_neg fun both => moving both.1]
      rfl
    · intro warned
      rw [State.dueBattery, if_pos (show s.engine.strobes = 0 from quiet), State.measureBattery_eq]
      exact congrArg _ (if_congr (and_iff_right held) rfl rfl)
  · intro th measured
    have timed : exec (.headTimerExpired thm) s = .next
        ({ s with monitor.headTimer := Monitor.reset.headTimer }.measureHead thm) := by
      show Host.Outcome.next _ = _
      rw [if_neg on]
    have reading : headReading thm = th := headReading_eq thm
    rw [timed, State.measureHead_eq, State.recordHead, reading]
    rfl
  · show Host.Outcome.next _ = _
    rw [if_neg on]
    rfl


end Sys2Proof.Machine
end

section
/-! PROOF. CONTROLLER RESET and the settings (chapter 11): what every block keeps, what CONFIGURE stores and brings at
once, and what READ SETTING reads back. -/

namespace Sys2Proof.Machine

open Sys2Proof

/-! ## CONTROLLER RESET (R189) -/

theorem Slot.controllerReset_eq (x : Slot) : x.controllerReset = { x with
    state := if x.chains ∧ x.state ∈ [SlotState.queued, .active, .copying] then .aborted else x.state
    outcome := if x.chains ∧ x.state ∈ [SlotState.queued, .active, .copying] then some .controllerReset else x.outcome
    hold := false
    job := .absent } := by
  have aborted : (x.isChainKind && (x.state = .queued || x.state = .active || x.state = .copying)) = true ↔
      x.chains ∧ x.state ∈ [SlotState.queued, .active, .copying] := by
    simp [or_assoc]
  simp only [Slot.controllerReset, aborted]

theorem State.controllerReset_slot (s : State) (i : SlotId) : s.controllerReset.slot i =
    (s.slot i).controllerReset := by
  show (s.slots.map Slot.controllerReset)[i] = _
  exact Vector.getElem_map ..

theorem State.controllerReset_events (s : State) (q : Port) :
    s.controllerReset.events.get q = (s.events.get q).controllerReset := by
  cases q <;> rfl

theorem Engine.stop_idle {e : Engine} (idle : e.state = .idle) : e.stop = e.clearStalls := by
  rw [Engine.stop, idle]

theorem Engine.stop_stepping {e : Engine} (stepping : e.state = .row ∨ e.state = .blank) :
    e.stop = { e.clearStalls with stopRequested := true } := by
  rcases stepping with state | state <;> rw [Engine.stop, state]

theorem Engine.stop_held {e : Engine} (held : e.state = .held) : e.stop = e.clearStalls.enterIdle := by
  rw [Engine.stop, held]

/-- Settles O60: the command is the reset of each block, and the row engine's stop goes by its state. -/
theorem controllerResetKeepsTheSettings : Obligations.ControllerResetKeepsTheSettings := by
  intro s p serves
  refine ⟨(s.attach p).controllerReset, State.servePort_next serves rfl, fun i => ?_, rfl, rfl, rfl, rfl, rfl, rfl,
    fun q => ?_, rfl, rfl, rfl, rfl, rfl, rfl, rfl, ?_⟩
  · rw [State.controllerReset_slot]
    exact (s.slot i).controllerReset_eq
  · rw [State.controllerReset_events]
    cases q <;> rfl
  · exact ⟨Engine.stop_idle, Engine.stop_stepping, Engine.stop_held⟩

/-! ## Numbers and values of the settings (R191, R192) -/

theorem settingArg_isNone {b : Byte} (beyond : 25 ≤ b.toNat) : settingArg b = none :=
  List.getElem?_eq_none beyond

theorem settingArg_isSome {b : Byte} (inside : b.toNat ≤ 24) : ∃ k, settingArg b = some k :=
  ⟨_, List.getElem?_eq_getElem (show b.toNat < settingList.length from Nat.lt_succ_of_le inside)⟩

theorem settingArg_lt {b : Byte} {k : Setting} (arg : settingArg b = some k) : b.toNat < 25 :=
  (List.getElem?_eq_some_iff.1 arg).1

/-- Two numbers of one setting are the same number. -/
theorem settingArg_inj {b c : Byte} {k : Setting} (of_b : settingArg b = some k) (of_c : settingArg c = some k) :
    b = c := by
  have distinct : settingList.Nodup := by decide
  exact BitVec.eq_of_toNat_eq ((List.getElem?_inj (settingArg_lt of_b) distinct).1 (of_b.trans of_c.symm))

theorem settingArg_eq_iff {b c : Byte} {k l : Setting} (of_b : settingArg b = some k) (of_c : settingArg c = some l) :
    b = c ↔ k = l :=
  ⟨fun same => Option.some.inj (of_b.symm.trans (same ▸ of_c)), fun same => settingArg_inj of_b (same ▸ of_c)⟩

/-- The line settings are the numbers 0 to 10 (R60). -/
theorem settingArg_isLine {b : Byte} {k : Setting} (arg : settingArg b = some k) : k.isLine =
    decide (b.toNat ≤ 10) := by
  have table : ∀ n (inside : n < 25), (settingList[n]'inside).isLine = decide (n ≤ 10) := by decide
  obtain ⟨inside, at_b⟩ := List.getElem?_eq_some_iff.1 arg
  rw [← at_b]
  exact table _ inside

/-- The numeric settings of R191 but for line_speed and flow_limit: number, range and step. -/
def numericSettings : List (Byte × Nat × Nat × Nat) :=
  [(1, 7, 8, 1), (3, 1, 2, 1), (4, 50, 500, 10), (5, 100, 2500, 100), (6, 5, 60, 1), (7, 1, 15, 1), (8, 1, 15, 1),
    (11, 500, 5000, 100), (12, 250, 4000, 250), (15, 0, 15, 1), (16, 250, 1000, 50), (17, 5, 30, 1)]

/-- The enumerated settings of R191: number and how many values. -/
def enumSettings : List (Byte × Nat) :=
  [(2, 4), (10, 3), (13, 4), (14, 3), (18, 3), (19, 3), (20, 4), (21, 4), (22, 4), (23, 4), (24, 2)]

theorem settingArg_numeric {b : Byte} {lo hi st : Nat} (mem : (b, lo, hi, st) ∈ numericSettings) :
    ∃ k, settingArg b = some k ∧ ∀ v, k.permit v = some (clampStep lo hi st v) := by
  simp only [numericSettings, List.mem_cons, Prod.mk.injEq, List.not_mem_nil, or_false] at mem
  rcases mem with ⟨rfl, rfl, rfl, rfl⟩ | ⟨rfl, rfl, rfl, rfl⟩ | ⟨rfl, rfl, rfl, rfl⟩ | ⟨rfl, rfl, rfl, rfl⟩ |
    ⟨rfl, rfl, rfl, rfl⟩ | ⟨rfl, rfl, rfl, rfl⟩ | ⟨rfl, rfl, rfl, rfl⟩ | ⟨rfl, rfl, rfl, rfl⟩ |
    ⟨rfl, rfl, rfl, rfl⟩ | ⟨rfl, rfl, rfl, rfl⟩ | ⟨rfl, rfl, rfl, rfl⟩ | ⟨rfl, rfl, rfl, rfl⟩ <;>
    exact ⟨_, rfl, fun _ => rfl⟩

theorem settingArg_enum {b : Byte} {n : Nat} (mem : (b, n) ∈ enumSettings) :
    ∃ k, settingArg b = some k ∧ ∀ v, k.permit v = if v < n then some v else none := by
  simp only [enumSettings, List.mem_cons, Prod.mk.injEq, List.not_mem_nil, or_false] at mem
  rcases mem with ⟨rfl, rfl⟩ | ⟨rfl, rfl⟩ | ⟨rfl, rfl⟩ | ⟨rfl, rfl⟩ | ⟨rfl, rfl⟩ | ⟨rfl, rfl⟩ | ⟨rfl, rfl⟩ |
    ⟨rfl, rfl⟩ | ⟨rfl, rfl⟩ | ⟨rfl, rfl⟩ | ⟨rfl, rfl⟩ <;> exact ⟨_, rfl, fun _ => rfl⟩

/-- A value of an enumerated setting is a number of its table. -/
theorem permit_enum {n v w : Nat} (permit : (if v < n then some v else none) = some w) : w < n := by
  split at permit
  · next inside =>
    obtain rfl := Option.some.inj permit
    exact inside
  · contradiction

theorem parityNumber_parityOf : ∀ n < 4, parityNumber (parityOf n) = n := by decide
theorem turnModeNumber_turnModeOf : ∀ n < 3, turnModeNumber (turnModeOf n) = n := by decide
theorem sinkNumber_sinkOf : ∀ n < 4, sinkNumber (sinkOf n) = n := by decide
theorem printModeNumber_printModeOf : ∀ n < 3, printModeNumber (printModeOf n) = n := by decide
theorem keyModeNumber_keyModeOf : ∀ n < 3, keyModeNumber (keyModeOf n) = n := by decide
theorem lampModeNumber_lampModeOf : ∀ n < 4, lampModeNumber (lampModeOf n) = n := by decide

/-- A permitted value stored is the value read back (R192). -/
theorem Settings.value_store {k : Setting} {v w : Nat} (permit : k.permit v = some w) (t : Settings) :
    (t.store k w).value k = w := by
  cases k
  case parity => exact parityNumber_parityOf w (permit_enum permit)
  case turnMode => exact turnModeNumber_turnModeOf w (permit_enum permit)
  case openTextSink => exact sinkNumber_sinkOf w (permit_enum permit)
  case printMode => exact printModeNumber_printModeOf w (permit_enum permit)
  case keyModeA => exact keyModeNumber_keyModeOf w (permit_enum permit)
  case keyModeB => exact keyModeNumber_keyModeOf w (permit_enum permit)
  case lampLine => exact lampModeNumber_lampModeOf w (permit_enum permit)
  case lampPaper => exact lampModeNumber_lampModeOf w (permit_enum permit)
  case lampSupply => exact lampModeNumber_lampModeOf w (permit_enum permit)
  case lampFocus => exact lampModeNumber_lampModeOf w (permit_enum permit)
  case beeperEnable =>
    have bit : w < 2 := permit_enum permit
    interval_cases w <;> rfl
  all_goals rfl

/-- A store leaves the other settings. -/
theorem Settings.value_store_ne {k l : Setting} (other : l ≠ k) (t : Settings) (w : Nat) :
    (t.store k w).value l = t.value l := by
  cases k <;> cases l <;> (try rfl) <;> exact absurd rfl other

/-! ## What a stored setting brings at once (R133, R145, R172) -/

theorem State.settingStored_other {k : Setting} (beeper : k ≠ .beeperEnable) (sink : k ≠ .openTextSink)
    (mode : k ≠ .printMode) (s : State) : s.settingStored k = s := by
  unfold State.settingStored
  split
  case h_4 => rfl
  all_goals contradiction

theorem sinkOf_eq_print_iff (w : Nat) : sinkOf w = .print ↔ w = 0 := by
  unfold sinkOf
  split_ifs <;> simp_all

/-- Storing a permitted value, with what it brings at once. -/
def State.withSetting (s : State) (k : Setting) (w : Nat) : State :=
  { s with settings := s.settings.store k w }.settingStored k

theorem configureCommand_badSetting {b : Byte} (none : settingArg b = none) (value : BitVec 16) (s : State) :
    configureCommand b value s = refuse .badArg s := by
  rw [configureCommand, none]

theorem configureCommand_lineBusy {b : Byte} {k : Setting} {s : State} (arg : settingArg b = some k)
    (line : k.isLine = true) (busy : s.sup.state ≠ .idle) (value : BitVec 16) :
    configureCommand b value s = refuse .lineBusy s := by
  simp only [configureCommand, arg]
  rw [if_pos (by simp [line, busy])]

theorem configureCommand_badValue {b : Byte} {k : Setting} {s : State} {value : BitVec 16} (arg : settingArg b = some k)
    (free : k.isLine = true → s.sup.state = .idle) (bad : k.permit value.toNat = none) :
    configureCommand b value s = refuse .badArg s := by
  simp only [configureCommand, arg, bad]
  rw [if_neg (by simpa using free)]

theorem configureCommand_stores {b : Byte} {k : Setting} {s : State} {value : BitVec 16} {w : Nat}
    (arg : settingArg b = some k) (free : k.isLine = true → s.sup.state = .idle)
    (permit : k.permit value.toNat = some w) :
    configureCommand b value s = (s.withSetting k w, ⟨if w = value.toNat then .ok else .okClamped, []⟩) := by
  simp only [configureCommand, arg, permit]
  rw [if_neg (by simpa using free)]
  rfl

theorem readSettingCommand_reads {b : Byte} {k : Setting} (arg : settingArg b = some k) (s : State) :
    readSettingCommand b s = (s, ⟨.ok, wordBytes (s.settings.value k)⟩) := by
  simp only [readSettingCommand, arg]

theorem State.withSetting_beeper {v w : Nat} (permit : Setting.beeperEnable.permit v = some w) (s : State) :
    s.withSetting .beeperEnable w = if w = 0 then
      { s with settings := s.settings.store .beeperEnable w, monitor.burst := none }
    else { s with settings := s.settings.store .beeperEnable w } := by
  have bit : w < 2 := permit_enum permit
  interval_cases w <;> rfl

theorem State.withSetting_sink (s : State) (w : Nat) : s.withSetting .openTextSink w = if w = 0 then
      { s with settings := s.settings.store .openTextSink w }.settle
    else ({ s with settings := s.settings.store .openTextSink w }.changePrintMarks
      fun r => { r with lds := 0 }).settle := by
  simp only [State.withSetting, State.settingStored, Settings.store, sinkOf_eq_print_iff]
  split <;> rfl

/-- What CONFIGURE leaves, by the number of the setting. -/
theorem State.withSetting_eq {b : Byte} {k : Setting} {v w : Nat} (arg : settingArg b = some k)
    (permit : k.permit v = some w) (s : State) : s.withSetting k w =
    let u : State := { s with settings := s.settings.store k w }
    if b = 24 ∧ w = 0 then { u with monitor.burst := none }
    else if b = 13 ∧ w = 0 then u.settle
    else if b = 13 then (u.changePrintMarks fun r => { r with lds := 0 }).settle
    else if b = 14 then u.settle
    else u := by
  have beeper : b = 24 ↔ k = .beeperEnable := settingArg_eq_iff arg rfl
  have sink : b = 13 ↔ k = .openTextSink := settingArg_eq_iff arg rfl
  have mode : b = 14 ↔ k = .printMode := settingArg_eq_iff arg rfl
  simp only [beeper, sink, mode]
  by_cases isBeeper : k = .beeperEnable
  · subst isBeeper
    rw [State.withSetting_beeper permit]
    simp
  · by_cases isSink : k = .openTextSink
    · subst isSink
      rw [State.withSetting_sink]
      simp
    · by_cases isMode : k = .printMode
      · subst isMode
        simp [State.withSetting, State.settingStored]
      · rw [State.withSetting, State.settingStored_other isBeeper isSink isMode]
        simp [isBeeper, isSink, isMode]

theorem State.withSetting_still (s : State) (k : Setting) (w : Nat) :
    (s.withSetting k w).still = { s with settings := s.settings.store k w }.still := by
  unfold State.withSetting State.settingStored
  split
  case h_1 => split <;> rfl
  case h_2 =>
    rw [State.settle_still]
    split <;> simp [State.still]
  case h_3 => rw [State.settle_still]
  case h_4 => rfl

theorem State.withSetting_settings (s : State) (k : Setting) (w : Nat) :
    (s.withSetting k w).settings = s.settings.store k w := congrArg (·.2.1) (s.withSetting_still k w)

theorem State.withSetting_kbd (s : State) (k : Setting) (w : Nat) : (s.withSetting k w).kbd = s.kbd :=
  congrArg (·.1) (s.withSetting_still k w)

theorem State.withSetting_portServes (s : State) (k : Setting) (w : Nat) (p : Port) :
    (s.withSetting k w).portServes p = s.portServes p := by
  have portA : (s.withSetting k w).portA = s.portA := congrArg (·.2.2.1) (s.withSetting_still k w)
  have power : (s.withSetting k w).power = s.power := congrArg (·.2.2.2.2.2.1) (s.withSetting_still k w)
  rw [State.portServes, State.portServes, power, portA]

/-- An attached port stays attached. -/
theorem State.attach_again {s : State} {p : Port} (attached : s.kbd.attached.get p = true) : s.attach p = s := by
  have same : s.kbd.attached.set p true = s.kbd.attached := by
    cases p <;> simp only [PerPort.set, ← attached] <;> rfl
  rw [State.attach, same]

theorem State.attach_attached_self (s : State) (p : Port) : (s.attach p).kbd.attached.get p = true := by
  cases p <;> rfl

/-- Settles O59: a permitted value is stored and read back through the setting of its number; every other value or
number is refused. -/
theorem configureAndReadSetting : Obligations.ConfigureAndReadSetting := by
  intro s p b value serves v stored
  have free_line : ∀ {k}, settingArg b = some k → (11 ≤ b.toNat ∨ s.sup.state = .idle) →
      k.isLine = true → (s.attach p).sup.state = .idle := fun arg free line =>
    free.resolve_left (by rw [settingArg_isLine arg, decide_eq_true_eq] at line; omega)
  have stores : ∀ {k w}, settingArg b = some k → (11 ≤ b.toNat ∨ s.sup.state = .idle) → k.permit v = some w →
      stored w (if w = v then .ok else .okClamped) := by
    intro k w arg free permit
    refine ⟨s.settings.store k w, fun l => ?_, ?_⟩
    · by_cases same : l = k
      · rw [same, if_pos arg, Settings.value_store permit]
      · rw [if_neg fun other => same (Option.some.inj (other.symm.trans arg)), Settings.value_store_ne same]
    · intro u t
      have t_eq : t = (s.attach p).withSetting k w := (State.withSetting_eq arg permit (s.attach p)).symm
      rw [t_eq]
      refine ⟨State.servePort_next serves (configureCommand_stores arg (free_line arg free) permit), ?_⟩
      have again : ((s.attach p).withSetting k w).attach p = (s.attach p).withSetting k w :=
        State.attach_again (by rw [State.withSetting_kbd, State.attach_attached_self])
      have reads := readSettingCommand_reads arg ((s.attach p).withSetting k w)
      rw [State.withSetting_settings, Settings.value_store permit] at reads
      exact State.servePort_next ((State.withSetting_portServes _ k w p).trans serves) (by rw [again]; exact reads)
  refine ⟨fun beyond => ⟨?_, ?_⟩, fun line busy => ?_, fun inside => ?_, fun free => ⟨?_, ?_, ?_, ?_⟩⟩
  · exact State.servePort_refused serves (configureCommand_badSetting (settingArg_isNone beyond) value _)
  · exact State.servePort_refused serves (by rw [readSettingCommand, settingArg_isNone beyond])
  · obtain ⟨k, arg⟩ := settingArg_isSome (line.trans (by decide))
    have isLine : k.isLine = true := by rw [settingArg_isLine arg]; exact decide_eq_true line
    exact State.servePort_refused serves (configureCommand_lineBusy (s := s.attach p) arg isLine busy value)
  · obtain ⟨k, arg⟩ := settingArg_isSome inside
    exact ⟨s.settings.value k, State.servePort_next serves (readSettingCommand_reads arg (s.attach p)),
      fun l other => congrArg s.settings.value (Option.some.inj (arg.symm.trans other))⟩
  · intro lo hi st mem
    obtain ⟨k, arg, permit⟩ := settingArg_numeric mem
    exact stores arg free (permit v)
  · intro isSpeed
    exact stores (k := .lineSpeed) (by rw [isSpeed]; rfl) free rfl
  · intro isLimit w
    have clamp : clampStep 10 255 1 v = if v < 10 then 10 else if 255 < v then 255 else v := by
      simp only [clampStep, Nat.div_one, Nat.mul_one]
      split_ifs <;> omega
    exact stores (k := .flowLimit) (by rw [isLimit]; rfl) free (by rw [Setting.permit, clamp])
  · intro n mem
    obtain ⟨k, arg, permit⟩ := settingArg_enum mem
    refine ⟨fun outside => ?_, fun inside => ?_⟩
    · exact State.servePort_refused serves (configureCommand_badValue arg (free_line arg free)
        ((permit v).trans (if_neg (Nat.not_lt.2 outside))))
    · have stores_v := stores arg free ((permit v).trans (if_pos inside))
      rwa [if_pos rfl] at stores_v


end Sys2Proof.Machine
end
